-- ==== Sys2Proof/Word.lean ====
section
/-! DEFINITION. The words of the block: bytes, VRAM addresses, colour codes, rows of the picture, and the accesses
that reach the block from outside (its two ports and its entry points, 30_encoding.md R60). -/

namespace Sys2Proof

/-- Every byte is 8 bits, bit 0 the least significant (R5). -/
abbrev Byte := BitVec 8

/-- The VRAM address counter holds at most 14 bits (R22). -/
abbrev VAddr := BitVec 14

/-- A colour code is 4 bits, 0 to 15 (R76). -/
abbrev Colour := BitVec 4

/-- A row of the output surface: colour codes from column 0 on (R112). -/
abbrev Row := List Colour

/-- What reaches the block from outside, before decoding (R60): a port, a direction and a byte, or the call of an
entry point. `elapsed` is the tick count that the timed entry points are given (R188); only the optional timing
validator reads it. The spec gives it no width: an unbounded natural, DESIGN CHOICE, unsafe, log entry 24. -/
inductive Access where
  | dataWrite (value : Byte) (elapsed : Nat)      -- format DW
  | dataRead (elapsed : Nat)                      -- format DR
  | commandRead                                   -- format SR
  | commandWrite (value : Byte) (elapsed : Nat)   -- formats C1 and C2
  | isInterruptPending
  | clearInterrupt
  | renderFrame (elapsed : Nat)
  | renderScanline (index : Nat)
  | reset
deriving DecidableEq, Repr

end Sys2Proof
end

