-- ==== Sys2Proof/Config.lean ====
section
/-! DEFINITION. The parameters of 00_scope.md R4, the numbers the spec fixes, and the values it leaves OPEN
(92_eei_decisions.md section 2) as constants without a body. -/

namespace Sys2Proof

/-- The read/write mode flag's two values (R23). -/
inductive RwMode where
  | read
  | write
deriving DecidableEq, Repr, Inhabited

/-- The legal values of VRAM_SIZE: 4096, 8192, 16384 (R4, D1). -/
inductive VramSize where
  | k4
  | k8
  | k16
deriving DecidableEq, Repr

/-- VRAM_SIZE in bytes. -/
def VramSize.bytes : VramSize → Nat
  | .k4 => 4096
  | .k8 => 8192
  | .k16 => 16384

/-- POLICY of the timing validator (R4, R166). -/
inductive Policy where
  | warn
  | abort
  | drop
deriving DecidableEq, Repr

/-- The operations that pass the gate of the timing validator (R166). ReadStatus does not (C6). -/
inductive TimedOp where
  | writeData
  | writeCommand
  | readData
deriving DecidableEq, Repr

/-- The two windows of a frame that the required gap depends on (R167). -/
inductive Window where
  | active
  | blanking
deriving DecidableEq, Repr, Inhabited

/-- The arguments of MIN_GAP (R166): category, DISP, isText, window. -/
structure GapKey where
  category : Nat
  display : Bool
  isText : Bool
  window : Window
deriving DecidableEq, Repr

/-- What the timing validator takes when it is present: POLICY, the access categories and MIN_GAP, all OPEN (R4, R167,
D23). MIN_GAP is a table; a key it does not list requires no gap (DESIGN CHOICE: log entry 9). -/
structure ValidatorParams where
  policy : Policy
  writeDataCategory : Nat
  writeCommandCategory : Nat
  readDataCategory : Nat
  minGap : List (GapKey × Nat)
deriving DecidableEq, Repr

/-- TIMING_VALIDATOR: absent or present (R4, R165). -/
inductive Validator where
  | absent
  | present (v : ValidatorParams)
deriving DecidableEq, Repr

/-- VRAM_INIT, what VRAM holds where nothing has been written: OPEN, "a model argument or a draw" (R4, R38, R196). -/
inductive VramInit where
  /-- The draw: one byte per address, fixed for the run, that nothing constrains (U15). -/
  | unspecified
  /-- The argument, where it is the same byte everywhere; the cells of `State.vram` give any other contents. -/
  | fill (b : Byte)
deriving DecidableEq, Repr

/-- The parameters that the host chooses before a run and nobody changes during it (R4, R212). -/
structure Params where
  /-- VRAM_SIZE. -/
  vramSize : VramSize
  /-- VRAM_INIT. -/
  vramInit : VramInit
  /-- SPRITE_Y_BIAS, an integer (R148). -/
  spriteYBias : Int
  /-- TIMING_VALIDATOR and POLICY. -/
  validator : Validator
deriving DecidableEq, Repr

/-- The decided values: 16384 bytes (D1), a bias of one line (D14), no validator (D23); VRAM_INIT, which is not decided,
is the draw (D19). -/
def Params.decided : Params := { vramSize := .k16, vramInit := .unspecified, spriteYBias := 1, validator := .absent }

/-- ACTIVE_H: scanlines 0..191 (R4). -/
def activeHeight : Nat := 192

/-- ACTIVE_W: columns 0..255 (R4). -/
def activeWidth : Nat := 256

/-- NREGS (R4). -/
def registerCount : Nat := 8

/-- NSPRITES (R4). -/
def spriteEntries : Nat := 32

/-- SPRITES_PER_LINE (R4). -/
def spritesPerLine : Nat := 4

/-- RESET_MODE, drawn for the state at the start and anew by each Reset: OPEN (R38, R195, R196, D19). DESIGN CHOICE,
safe: log entries 1 and 2. -/
opaque Config.resetMode : Nat → RwMode

/-- VRAM_INIT as a draw: the byte at each address before anything is written there: OPEN (R38, R196, D19, U15). DESIGN
CHOICE, safe: log entry 4. -/
opaque Config.vramInit : Nat → Byte

/-- DROPPED_READ_VALUE, drawn anew by each dropped ReadData: OPEN (R166, D23). DESIGN
CHOICE, safe: log entry 8. -/
opaque Config.droppedReadValue : Nat → Byte

/-- The window in which `elapsed` falls, given the frame-refresh epoch (none before the first frame); the lengths of
a frame and of its active window are OPEN (R167, D23). DESIGN CHOICE, safe: log entry 9. -/
opaque Config.windowOf : Option Nat → Nat → Window

/-- The gap that the gate sees at the first access of a category, for which no earlier access is recorded: the spec
states no value (R38, R166). DESIGN CHOICE, safe: log entry 10. -/
opaque Config.firstGap : Nat → Nat → Nat

end Sys2Proof
end

