-- ==== Sys2Proof/Syntax.lean ====
section
/-! DEFINITION. The operations of the block, one constructor per row of spec/opcode_table.json (30_encoding.md R65). -/

namespace Sys2Proof

/-- One constructor per row of the opcode table, in its order. The five MODE_BLANK rows are `modeBlank` (display
disabled) and the four Invalid codes. `elapsed` is the argument of the source's timed signatures (its
width: log entry 24). -/
inductive Instr where
  /-- WD: WriteData (R90). -/
  | wd (value : Byte) (elapsed : Nat)
  /-- RD: ReadData (R97). -/
  | rd (elapsed : Nat)
  /-- RS: ReadStatus (R98). -/
  | rs
  /-- WC1: first command byte (R92). -/
  | wc1 (value : Byte) (elapsed : Nat)
  /-- SETRD: second command byte of class 00, `addrHi` = address bits 13:8 (R93). -/
  | setrd (addrHi : BitVec 6) (elapsed : Nat)
  /-- SETWR: second command byte of class 01 (R94). -/
  | setwr (addrHi : BitVec 6) (elapsed : Nat)
  /-- REGW: second command byte of class 10, `reg` = bits 2:0, `ignored` = bits 5:3 (R95, R64). -/
  | regw (reg : BitVec 3) (ignored : BitVec 3) (elapsed : Nat)
  /-- CMDINV: second command byte of class 11, `ignored` = bits 5:0 (R96). -/
  | cmdinv (ignored : BitVec 6) (elapsed : Nat)
  /-- INTP: IsInterruptPending (R180). -/
  | intp
  /-- CLRINT: ClearInterrupt (R181). -/
  | clrint
  /-- FRAME: RenderFrame (R110). -/
  | frame (elapsed : Nat)
  /-- LINE: RenderScanline, `index` in 0..191 (R111). -/
  | line (index : Nat)
  /-- RESET: Reset (R195). -/
  | reset
  /-- MODE_BLANK, (DISP, M1, M2, M3) = 0xxx: display disabled (R68, R113). -/
  | modeBlank
  /-- MODE_G1, 1000. -/
  | modeG1
  /-- MODE_G2, 1001. -/
  | modeG2
  /-- MODE_MC, 1010. -/
  | modeMc
  /-- MODE_TX, 1100. -/
  | modeTx
  /-- MODE_BLANK, 1011: Invalid. -/
  | modeInvalidM2M3
  /-- MODE_BLANK, 1101: Invalid. -/
  | modeInvalidM1M3
  /-- MODE_BLANK, 1110: Invalid. -/
  | modeInvalidM1M2
  /-- MODE_BLANK, 1111: Invalid. -/
  | modeInvalidAll
deriving DecidableEq, Repr

end Sys2Proof
end

