-- ==== Sys2Proof/WellFormed.lean ====
section
/-! DEFINITION. Which operations are inside the block's domain. -/

namespace Sys2Proof

/-- The one check: RenderScanline's index is 0..191 (R111, D26). Every other operand value is legal (R177). -/
def Instr.wf : Instr → Bool
  | .line index => index < activeHeight
  | .wd _ _ | .rd _ | .rs | .wc1 _ _ | .setrd _ _ | .setwr _ _ | .regw _ _ _ | .cmdinv _ _ => true
  | .intp | .clrint | .frame _ | .reset => true
  | .modeBlank | .modeG1 | .modeG2 | .modeMc | .modeTx => true
  | .modeInvalidM2M3 | .modeInvalidM1M3 | .modeInvalidM1M2 | .modeInvalidAll => true

end Sys2Proof
end

