-- ==== Sys2Proof/Decode.lean ====
section
/-! DEFINITION. Decoding (30_encoding.md): what selects an operation is the port, the direction, the latch phase and
bits 7:6 of a second command byte (R60, R62, R66); what selects a plane renderer is the mode code in the registers
(R68). Then the encoder, from the same tables. -/

namespace Sys2Proof

/-- What the decoder reads: an access in a latch phase (R66), or the word (R[1] << 8) | R[0] of a register sample. -/
inductive Code where
  | access (latched : Bool) (a : Access)
  | modeWord (w : BitVec 16)
deriving DecidableEq, Repr

/-- Why the decoder refuses. -/
inductive Reject where
  /-- RenderScanline with an index outside 0..191: "outside the operation's domain" (R111, D26). -/
  | scanlineOutOfRange (index : Nat)
deriving DecidableEq, Repr

/-- Format C2: bits 7:6 are the class (R62). -/
def decodeSecondByte (value : Byte) (elapsed : Nat) : Instr :=
  match (value.extractLsb' 6 2).toNat with
  | 0 => .setrd (value.extractLsb' 0 6) elapsed
  | 1 => .setwr (value.extractLsb' 0 6) elapsed
  | 2 => .regw (value.extractLsb' 0 3) (value.extractLsb' 3 3) elapsed
  | _ => .cmdinv (value.extractLsb' 0 6) elapsed

/-- The mode code (R68): DISP is bit 14 of the word, M1 bit 12, M2 bit 11, M3 bit 1. -/
def decodeMode (w : BitVec 16) : Instr :=
  match w.getLsbD 14, w.getLsbD 12, w.getLsbD 11, w.getLsbD 1 with
  | false, _, _, _ => .modeBlank
  | true, false, false, false => .modeG1
  | true, false, false, true => .modeG2
  | true, false, true, false => .modeMc
  | true, true, false, false => .modeTx
  | true, false, true, true => .modeInvalidM2M3
  | true, true, false, true => .modeInvalidM1M3
  | true, true, true, false => .modeInvalidM1M2
  | true, true, true, true => .modeInvalidAll

/-- Decoding of an access: R60, and R91 for a command-port write. -/
def decodeAccess (latched : Bool) : Access → Except Reject Instr
  | .dataWrite value elapsed => .ok (.wd value elapsed)
  | .dataRead elapsed => .ok (.rd elapsed)
  | .commandRead => .ok .rs
  | .commandWrite value elapsed => .ok (if latched then decodeSecondByte value elapsed else .wc1 value elapsed)
  | .isInterruptPending => .ok .intp
  | .clearInterrupt => .ok .clrint
  | .renderFrame elapsed => .ok (.frame elapsed)
  | .renderScanline index => if index < activeHeight then .ok (.line index) else .error (.scanlineOutOfRange index)
  | .reset => .ok .reset

/-- The decoder: total on every code. -/
def decode : Code → Except Reject Instr
  | .access latched a => decodeAccess latched a
  | .modeWord w => .ok (decodeMode w)

/-- The instruction that the decoder reads from a word of the opcode table: a row of 8 bits is format C2 (a command
byte in the second phase), a row of 16 bits is a mode word. The table gives no other row a bit pattern that selects
it (WD and WC1 decode no bit; the rest have no word). -/
def decodeTableWord (nbits w : Nat) : Option Instr :=
  if nbits = 8 then (decode (.access true (.commandWrite (BitVec.ofNat 8 w) 0))).toOption
  else if nbits = 16 then (decode (.modeWord (BitVec.ofNat 16 w))).toOption
  else none

/-- The second command byte of a class and its bits 5:0 (R62). -/
def secondByte (cls : BitVec 2) (low : BitVec 6) : Byte := cls ++ low

/-- The code of an operation, from R62, R65 and R68. Of an operation that is the same in both latch phases the code
in phase false is given; of a mode row the word with every ignored bit 0. -/
def encode : Instr → Code
  | .wd value elapsed => .access false (.dataWrite value elapsed)
  | .rd elapsed => .access false (.dataRead elapsed)
  | .rs => .access false .commandRead
  | .wc1 value elapsed => .access false (.commandWrite value elapsed)
  | .setrd addrHi elapsed => .access true (.commandWrite (secondByte 0b00 addrHi) elapsed)
  | .setwr addrHi elapsed => .access true (.commandWrite (secondByte 0b01 addrHi) elapsed)
  | .regw reg ignored elapsed => .access true (.commandWrite (secondByte 0b10 (ignored ++ reg)) elapsed)
  | .cmdinv ignored elapsed => .access true (.commandWrite (secondByte 0b11 ignored) elapsed)
  | .intp => .access false .isInterruptPending
  | .clrint => .access false .clearInterrupt
  | .frame elapsed => .access false (.renderFrame elapsed)
  | .line index => .access false (.renderScanline index)
  | .reset => .access false .reset
  | .modeBlank => .modeWord 0x0000
  | .modeG1 => .modeWord 0x4000
  | .modeG2 => .modeWord 0x4002
  | .modeMc => .modeWord 0x4800
  | .modeTx => .modeWord 0x5000
  | .modeInvalidM2M3 => .modeWord 0x4802
  | .modeInvalidM1M3 => .modeWord 0x5002
  | .modeInvalidM1M2 => .modeWord 0x5800
  | .modeInvalidAll => .modeWord 0x5802

/-- The mask and match of the operation's row in spec/opcode_table.json, for the rows that have a word. -/
def tableRow : Instr → Option (Nat × Nat)
  | .wd _ _ | .wc1 _ _ => some (0x00, 0x00)
  | .setrd _ _ => some (0xC0, 0x00)
  | .setwr _ _ => some (0xC0, 0x40)
  | .regw _ _ _ => some (0xC0, 0x80)
  | .cmdinv _ _ => some (0xC0, 0xC0)
  | .modeBlank => some (0x4000, 0x0000)
  | .modeG1 => some (0x5802, 0x4000)
  | .modeG2 => some (0x5802, 0x4002)
  | .modeMc => some (0x5802, 0x4800)
  | .modeTx => some (0x5802, 0x5000)
  | .modeInvalidM2M3 => some (0x5802, 0x4802)
  | .modeInvalidM1M3 => some (0x5802, 0x5002)
  | .modeInvalidM1M2 => some (0x5802, 0x5800)
  | .modeInvalidAll => some (0x5802, 0x5802)
  | .rd _ | .rs | .intp | .clrint | .frame _ | .line _ | .reset => none

/-- The bits of a code that its table row speaks of. -/
def Code.word : Code → Option Nat
  | .access _ (.dataWrite value _) => some value.toNat
  | .access _ (.commandWrite value _) => some value.toNat
  | .access _ (.dataRead _) | .access _ .commandRead | .access _ .isInterruptPending => none
  | .access _ .clearInterrupt | .access _ (.renderFrame _) | .access _ (.renderScanline _) | .access _ .reset => none
  | .modeWord w => some w.toNat

end Sys2Proof
end

