-- ==== Sys2Proof/Machine/State.lean ====
section
/-! DEFINITION. The state of the block (10_state.md), the reasons a step can stop, and the state after reset. -/

namespace Sys2Proof.Machine

/-- The RegisterFile: eight registers of one byte, every bit a storage bit (R10). -/
structure RegFile where
  r0 : Byte
  r1 : Byte
  r2 : Byte
  r3 : Byte
  r4 : Byte
  r5 : Byte
  r6 : Byte
  r7 : Byte
deriving DecidableEq, Repr

/-- VRAM as (address, byte) pairs, addresses strictly rising, no entry equal to what an unlisted address reads as. Where
VRAM_INIT is the draw, no byte is known to equal it, so every written byte stays listed (log entry 4). -/
abbrev Memory := List Host.Cell

/-- TimingState of the optional validator (R31, R168): the last-access timestamp per access category, categories
strictly rising, and the frame-refresh epoch (none: at its start, no frame redrawn yet). The spec gives timestamps,
categories, the epoch and `elapsed` no type or width; unbounded naturals, which never wrap: DESIGN CHOICE, unsafe, log entry
24. -/
structure TimingState where
  last : List (Nat × Nat)
  epoch : Option Nat
deriving DecidableEq, Repr

/-- No access recorded, the epoch at its start (R38). -/
def TimingState.initial : TimingState := { last := [], epoch := none }

/-- The diagnostics, each with the information it records (R176). -/
inductive Diag where
  | writeInReadMode (address : VAddr) (value : Byte)
  | readInWriteMode (address : VAddr)
  | invalidCommand (latchByte value : Byte)
  | reservedBits (reg : BitVec 3) (latchByte : Byte)
  | timingViolation (category gap required : Nat)
deriving DecidableEq, Repr

/-- The plane renderers, and Blank: "a small closed tagged-variant" (R113). -/
inductive DisplayMode where
  | blank
  | graphicsI
  | graphicsII
  | multicolor
  | text
deriving DecidableEq, Repr

/-- How the trace lets the render agent run one scanline: undisturbed, or one
atomic action (a register or VRAM byte read, or a pixel with its status update) at a time, so that port operations can land in
between (R52, R54). -/
inductive Granularity where
  | whole
  | byByte
deriving DecidableEq, Repr

/-- Where the render agent stands in a scanline. -/
inductive LinePhase where
  /-- Taking the register sample, one register byte at a time: the number of the register read next (R30, R52, R114). -/
  | sampling (next : Nat)
  /-- The register sample is taken; the mode dispatch comes next (R113, R114). -/
  | dispatch
  /-- In a plane, at a cell, with the bytes of that cell read so far in the order of R126, R132, R137, R143. -/
  | plane (mode : DisplayMode) (cell : Nat) (got : List Byte)
  /-- In the sprite walk, at entry `n`, with `count` and `occupied` (R29) and the bytes of the entry read so far in
  the order of R157. -/
  | sprite (n count : Nat) (occupied : List Bool) (got : List Byte)
  /-- Writing the pixels of sprite `n`: the device columns still to write (R153). -/
  | overlay (n count : Nat) (occupied : List Bool) (colour : Colour) (columns : List Nat)
  /-- The row is complete; F and the return come next (R111). -/
  | drawn
deriving DecidableEq, Repr

/-- A scanline in progress: its index, the register sample (R30), and the row drawn so far. -/
structure LineTask where
  index : Nat
  sample : RegFile
  granularity : Granularity
  phase : LinePhase
  row : Row
deriving DecidableEq, Repr

/-- What a port operation hands back to its caller (R9). -/
inductive PortResult where
  | nothing
  | byte (b : Byte)
  | bool (b : Bool)
deriving DecidableEq, Repr

/-- One entry of the trace that a run consists of (R211): a whole operation, or, in the real-time deployment, a move
of the render agent (R51, R52). -/
inductive Event where
  /-- An operation of R9, run whole. -/
  | op (a : Access)
  /-- The render agent starts RenderScanline(index): undisturbed, it takes the register sample now; byte by byte, the
  sample's register reads come next (R52, R114). -/
  | lineStart (index : Nat) (granularity : Granularity)
  /-- The render agent goes on with the scanline in progress. -/
  | renderNext
deriving DecidableEq, Repr

/-- All state of the block; below the line, what the model adds (INVENTORY.md says which is which). -/
structure State where
  /-- R[0..7] (R10). -/
  regs : RegFile
  /-- The status register F:S5:C:FSN (R20). -/
  status : Byte
  /-- The VRAM address counter (R22). -/
  address : VAddr
  /-- The read/write mode flag (R23). -/
  mode : RwMode
  /-- The latch phase (R24). -/
  latched : Bool
  /-- The most recent first command byte (R25). -/
  latchByte : Byte
  /-- VRAM (R26). -/
  vram : Memory
  /-- TimingState (R31). -/
  timing : TimingState
  /-- The scanline in progress: register sample, count, occupied (R29, R30); none outside a scanline. -/
  render : Option LineTask
  /-- What the most recent port operation returned (R211). -/
  portOut : PortResult
  /-- The row that the most recent RenderScanline returned, with its index (R111, R211). -/
  lineOut : Option (Nat × Row)
  /-- The rows that the most recent RenderFrame wrote to the output surface, top first; [] before any (R110, R112). -/
  surface : List Row
  /-- The diagnostics raised so far, oldest first (R175). -/
  diags : List Diag
  /-- How many free values have been drawn. -/
  draws : Nat
  /-- The parameters of the run (R4); no step changes them. -/
  params : Params
  /-- The part of the trace still to run, next first (R211). -/
  trace : List Event
deriving DecidableEq, Repr

/-- Why a run ends. -/
inductive Fault where
  /-- Raised by the gate of the timing validator when an access comes too soon and POLICY is Abort: "abort (fatal, for
  strict-fidelity test runs)"; "the run ends: treat as fault" (R166, U24). Safe: the spec itself ends the run here. -/
  | timingAbort (category gap required : Nat)
deriving DecidableEq, Repr

/-- Why the model gives an operation no meaning. Each is a case that the spec says to refuse. -/
inductive Refusal where
  /-- An instruction without a meaning in this model, by its mnemonic. No arm of exec answers it. Safe. -/
  | notModelled (mnemonic : String)
  /-- LINE with an index outside 0..191: "a model refuses it" (R111, D26). Raised by the decoder and by LINE. Safe. -/
  | scanlineOutOfRange (index : Nat)
  /-- A render operation while another is running: "refuse (assumed never to happen)" (U30, R212). Raised by FRAME,
  LINE and the start of a scanline. Safe. -/
  | renderInProgress
  /-- A gated access whose `elapsed` is below one already supplied: "refuse" (U26, R212). Raised by the gate, only
  when the validator is present. Safe. -/
  | elapsedDecreased
  /-- A mode dispatch with no scanline waiting for one: the rows MODE_* exist only on the "register sample of a render
  operation" (R113, R114). Raised by the mode rows; never by a step. Safe. -/
  | noScanlineAtDispatch
deriving DecidableEq, Repr

/-- The state right after reset (R38, R195). The spec states no value for `mode`, VRAM and `latchByte` (R196). `mode` and
VRAM are free values, RESET_MODE and VRAM_INIT: DESIGN CHOICE, safe, log entries 1 and 4. `latchByte` is 0x00: DESIGN
CHOICE, unsafe, log entry 3. -/
def State.reset : State where
  regs := { r0 := 0x00, r1 := 0x00, r2 := 0x00, r3 := 0x00, r4 := 0x00, r5 := 0x00, r6 := 0x00, r7 := 0x00 }
  status := 0x00
  address := 0
  mode := Config.resetMode 0
  latched := false
  latchByte := 0x00
  vram := []
  timing := .initial
  render := none
  portOut := .nothing
  lineOut := none
  surface := []
  diags := []
  draws := 1
  params := .decided
  trace := []

end Sys2Proof.Machine
end

