-- ==== Sys2Proof/Machine/Flags.lean ====
section
/-! DEFINITION. The status register: its four fields and every way the spec gives of changing them (R20, R21). -/

namespace Sys2Proof.Machine

/-- F, the frame flag: bit 7, mask 0x80 (R20). -/
def statusF (st : Byte) : Bool := st.getLsbD 7

/-- S5, the overflow or fifth-sprite flag: bit 6, mask 0x40 (R20). -/
def statusS5 (st : Byte) : Bool := st.getLsbD 6

/-- C, the coincidence flag: bit 5, mask 0x20 (R20). -/
def statusC (st : Byte) : Bool := st.getLsbD 5

/-- FSN, the fifth-sprite index: bits 4:0 (R20). -/
def statusFSN (st : Byte) : BitVec 5 := st.extractLsb' 0 5

/-- F <- 1 (R118). -/
def setF (st : Byte) : Byte := st ||| 0x80

/-- F <- 0, every other field kept (R181). -/
def clearF (st : Byte) : Byte := st &&& 0x7F

/-- C <- 1 (R153). -/
def setC (st : Byte) : Byte := st ||| 0x20

/-- The fifth sprite is entry `n`: (S5, FSN) <- (1, n) as one update if S5 is 0, else nothing changes (R150). -/
def recordFifth (n : Nat) (st : Byte) : Byte :=
  if statusS5 st then st else (st &&& 0xA0) ||| 0x40 ||| (BitVec.ofNat 5 n).setWidth 8

end Sys2Proof.Machine
end

