-- ==== Sys2Proof/Machine/Operands.lean ====
section
/-! DEFINITION. Operand assembly and what is read out of the registers: the command address (R63), the register file's
fields (R11 to R18), the table bases, the mode code, and the addresses of table entries (R70 to R75). -/

namespace Sys2Proof.Machine

/-- High nibble, bits 7:4. -/
def hiNibble (b : Byte) : Colour := b.extractLsb' 4 4

/-- Low nibble, bits 3:0. -/
def loNibble (b : Byte) : Colour := b.extractLsb' 0 4

/-- R[i]. -/
def RegFile.get (r : RegFile) (i : BitVec 3) : Byte :=
  match i.toNat with
  | 0 => r.r0
  | 1 => r.r1
  | 2 => r.r2
  | 3 => r.r3
  | 4 => r.r4
  | 5 => r.r5
  | 6 => r.r6
  | _ => r.r7

/-- R[i] <- v: the value is stored whole (R10). -/
def RegFile.set (r : RegFile) (i : BitVec 3) (v : Byte) : RegFile :=
  match i.toNat with
  | 0 => { r with r0 := v }
  | 1 => { r with r1 := v }
  | 2 => { r with r2 := v }
  | 3 => { r with r3 := v }
  | 4 => { r with r4 := v }
  | 5 => { r with r5 := v }
  | 6 => { r with r6 := v }
  | _ => { r with r7 := v }

/-- The must-be-zero masks MBZ (R19). -/
def mustBeZero (i : BitVec 3) : Byte :=
  match i.toNat with
  | 0 => 0xFC
  | 1 => 0x04
  | 2 => 0xF0
  | 3 => 0x00
  | 4 => 0xF8
  | 5 => 0x80
  | 6 => 0xF8
  | _ => 0x00

/-- addr14 = (second[5:0] << 8) | first[7:0] (R63). -/
def assembleAddress (addrHi : BitVec 6) (first : Byte) : Nat := ((addrHi ++ first : BitVec 14)).toNat

/-- (address & 0xFF00) | value: the low byte replaced (R92). -/
def replaceLowByte (address : VAddr) (value : Byte) : Nat := ((address &&& 0x3F00) ||| value.setWidth 14).toNat

/-- DISP = R[1][6] (R12). -/
def RegFile.displayEnabled (r : RegFile) : Bool := r.r1.getLsbD 6

/-- IE = R[1][5] (R12). -/
def RegFile.interruptEnable (r : RegFile) : Bool := r.r1.getLsbD 5

/-- M1 = R[1][4] (R12). -/
def RegFile.m1 (r : RegFile) : Bool := r.r1.getLsbD 4

/-- M2 = R[1][3] (R12). -/
def RegFile.m2 (r : RegFile) : Bool := r.r1.getLsbD 3

/-- M3 = R[0][1] (R11). -/
def RegFile.m3 (r : RegFile) : Bool := r.r0.getLsbD 1

/-- BD = R[7][3:0] (R18). -/
def RegFile.backdrop (r : RegFile) : Colour := loNibble r.r7

/-- TF = R[7][7:4] (R18). -/
def RegFile.textForeground (r : RegFile) : Colour := hiNibble r.r7

/-- NT = R[2][3:0] << 10 (R13). -/
def RegFile.nameTable (r : RegFile) : Nat := (r.r2.extractLsb' 0 4).toNat <<< 10

/-- CT = R[3] << 6, in Graphics I (R14). -/
def RegFile.colourTable (r : RegFile) : Nat := r.r3.toNat <<< 6

/-- PG = R[4][2:0] << 11, in Graphics I, Multicolor and Text (R15). -/
def RegFile.patternTable (r : RegFile) : Nat := (r.r4.extractLsb' 0 3).toNat <<< 11

/-- SAT = R[5][6:0] << 7 (R16). -/
def RegFile.spriteAttributeTable (r : RegFile) : Nat := (r.r5.extractLsb' 0 7).toNat <<< 7

/-- SPG = R[6][2:0] << 11 (R17). -/
def RegFile.spritePatternTable (r : RegFile) : Nat := (r.r6.extractLsb' 0 3).toNat <<< 11

/-- PatternBase2(t, r): the pattern base of third t in Graphics II (R131). -/
def RegFile.patternBase2 (r : RegFile) (t : Nat) : Nat :=
  ((r.r4 &&& 0x04).toNat <<< 11) + ((t &&& (r.r4.extractLsb' 0 2).toNat) <<< 11)

/-- ColourBase2(t, r): the colour base of third t in Graphics II (R131). -/
def RegFile.colourBase2 (r : RegFile) (t : Nat) : Nat :=
  ((r.r3 &&& 0x80).toNat <<< 6) + ((t &&& (r.r3.extractLsb' 5 2).toNat) <<< 11)

/-- SIZE = R[1][1]: the side of a sprite in source pixels, 8 or 16 (R147). -/
def RegFile.spriteSize (r : RegFile) : Nat := if r.r1.getLsbD 1 then 16 else 8

/-- MAG = R[1][0]: device pixels per source pixel, 1 or 2 (R147). -/
def RegFile.spriteScale (r : RegFile) : Nat := if r.r1.getLsbD 0 then 2 else 1

/-- ModeOf(r): the display-enable test first, then the mode bits (R113). -/
def RegFile.modeOf (r : RegFile) : DisplayMode :=
  if r.displayEnabled then
    match r.m1, r.m2, r.m3 with
    | false, false, false => .graphicsI
    | false, false, true => .graphicsII
    | false, true, false => .multicolor
    | true, false, false => .text
    | _, _, _ => .blank
  else .blank

/-- The word (R[1] << 8) | R[0] that the opcode table's mode rows are about. -/
def RegFile.modeWord (r : RegFile) : BitVec 16 := r.r1 ++ r.r0

/-- Resolve(c, r): colour code 0 is the backdrop (R115). -/
def RegFile.resolve (r : RegFile) (c : Colour) : Colour := if c = 0 then r.backdrop else c

/-- The name-table entry of cell (y div 8, c), `stride` entries a row (R70). -/
def RegFile.nameAddress (r : RegFile) (stride y c : Nat) : Nat := r.nameTable + y / 8 * stride + c

/-- Byte `line` of a glyph's eight bytes in a table at `base` (R71, R75). -/
def glyphAddress (base : Nat) (name : Byte) (line : Nat) : Nat := base + name.toNat * 8 + line

/-- The Graphics I colour entry of a glyph: shared by every 8 consecutive glyphs (R72). -/
def RegFile.colourAddress (r : RegFile) (name : Byte) : Nat := r.colourTable + name.toNat >>> 3

/-- The sub-row selector of Multicolor (R136). -/
def subRow (y : Nat) : Nat := (y / 8 % 4) * 2 + y % 8 / 4

/-- Byte k of sprite n's attribute entry (R74). -/
def RegFile.attributeAddress (r : RegFile) (n k : Nat) : Nat := r.spriteAttributeTable + 4 * n + k

/-- The end-of-list sentinel (R74, R146). -/
def spriteSentinel : Byte := 0xD0

/-- The colour of a sprite: attr[3:0] (R74). -/
def attrColour (attr : Byte) : Colour := loNibble attr

/-- The early clock bit: attr[7] (R74). -/
def attrEarlyClock (attr : Byte) : Bool := attr.getLsbD 7

/-- The first scanline of a sprite: a Y byte above 192 stands for Y - 256; then the bias (R148). -/
def spriteTop (bias : Int) (Y : Byte) : Int :=
  (if 192 < Y.toNat then (Y.toNat : Int) - 256 else (Y.toNat : Int)) + bias

/-- Device pixels covered in each direction (R147). -/
def RegFile.spriteExtent (r : RegFile) : Nat := r.spriteSize * r.spriteScale

/-- The sprite with this Y byte intersects scanline y (R149). -/
def spriteIntersects (bias : Int) (r : RegFile) (y : Nat) (Y : Byte) : Bool :=
  decide (spriteTop bias Y ≤ (y : Int)) && decide ((y : Int) < spriteTop bias Y + (r.spriteExtent : Int))

/-- s = (y - top) div scale: the source line shown on scanline y (R151). -/
def spriteLine (bias : Int) (r : RegFile) (y : Nat) (Y : Byte) : Nat :=
  ((y : Int) - spriteTop bias Y).toNat / r.spriteScale

/-- The pattern index, rounded to a multiple of 4 in double size (R151). -/
def RegFile.spriteName (r : RegFile) (name : Byte) : Byte := if r.spriteSize = 16 then name &&& 0xFC else name

/-- The pattern byte of the left half (the only one of an 8 by 8 sprite) at line s (R151). -/
def RegFile.spriteLeftAddress (r : RegFile) (name : Byte) (s : Nat) : Nat :=
  glyphAddress r.spritePatternTable (r.spriteName name) s

/-- The pattern byte of the right half at line s (R151). -/
def RegFile.spriteRightAddress (r : RegFile) (name : Byte) (s : Nat) : Nat :=
  glyphAddress r.spritePatternTable (r.spriteName name) (16 + s)

/-- x0: the leftmost device column, 32 to the left with the early clock (R155). -/
def spriteLeftColumn (X attr : Byte) : Int := (X.toNat : Int) - (if attrEarlyClock attr then 32 else 0)

/-- The device columns inside 0..255 that the 1 bits of a source line cover, left to right (R145, R154); bit
`size - 1` is the leftmost pixel. -/
def spriteColumns (size scale : Nat) (x0 : Int) (bits : BitVec 16) : List Nat :=
  (List.range size).flatMap fun i =>
    if bits.getLsbD (size - 1 - i) then
      (List.range scale).filterMap fun k =>
        let dx := x0 + (i * scale + k : Nat)
        if 0 ≤ dx ∧ dx ≤ 255 then some dx.toNat else none
    else []

end Sys2Proof.Machine
end

