-- ==== Sys2Proof/Machine/Ops.lean ====
section
/-! DEFINITION. The named operations over VRAM, the registers, the diagnostics and the timing gate. The block has no
trap (R175, R182): raising a diagnostic is the one thing that stands where exceptions would. -/

namespace Sys2Proof.Machine

/-- What an address of VRAM that nothing has written reads as: VRAM_INIT (R38, R196). DESIGN CHOICE, safe: log entry
4. -/
def Memory.unwritten : VramInit → Nat → Byte
  | .unspecified, a => Config.vramInit a
  | .fill b, _ => b

/-- A byte that need not be listed: the one that every unlisted address reads as, where VRAM_INIT names one. -/
def Memory.redundant : VramInit → Byte → Bool
  | .unspecified, _ => false
  | .fill b, v => decide (v = b)

/-- The byte at a key. -/
def Memory.read (init : VramInit) : Memory → Nat → Byte
  | [], a => Memory.unwritten init a
  | (b, w) :: m, a => if a = b then w else Memory.read init m a

/-- The byte at a key replaced; the canonical form is kept. -/
def Memory.write (init : VramInit) : Memory → Nat → Byte → Memory
  | [], a, v => if Memory.redundant init v then [] else [(a, v)]
  | (b, w) :: m, a, v =>
    if a < b then (if Memory.redundant init v then (b, w) :: m else (a, v) :: (b, w) :: m)
    else if a = b then (if Memory.redundant init v then m else (a, v) :: m)
    else (b, w) :: Memory.write init m a v

/-- Every listed address is at least `lo`, addresses rise strictly, and no entry is redundant. -/
def Memory.wfFrom (init : VramInit) : Nat → Memory → Bool
  | _, [] => true
  | lo, (b, w) :: m => decide (lo ≤ b) && !Memory.redundant init w && Memory.wfFrom init (b + 1) m

/-- The canonical form. -/
def Memory.wf (init : VramInit) (m : Memory) : Bool := Memory.wfFrom init 0 m

/-- Every listed address is below `size`. -/
def Memory.below (size : Nat) (m : Memory) : Bool := m.all fun c => decide (c.1 < size)

/-- VRAM_SIZE of the run. -/
def State.vramBytes (s : State) : Nat := s.params.vramSize.bytes

/-- VRAM is in canonical form. -/
def State.vramWf (s : State) : Bool := Memory.wf s.params.vramInit s.vram

/-- MemRead(a, 1): the byte VRAM[a mod VRAM_SIZE] (R40). -/
def State.memRead (s : State) (a : Nat) : Byte := Memory.read s.params.vramInit s.vram (a % s.vramBytes)

/-- MemWrite(a, 1, v): VRAM[a mod VRAM_SIZE] <- v (R40). -/
def State.memWrite (s : State) (a : Nat) (v : Byte) : State :=
  { s with vram := Memory.write s.params.vramInit s.vram (a % s.vramBytes) v }

/-- address <- v: the value stored is v mod VRAM_SIZE (R6, R22). -/
def State.setAddress (s : State) (v : Nat) : State := { s with address := BitVec.ofNat 14 (v % s.vramBytes) }

/-- address <- (address + 1) mod VRAM_SIZE (R41). -/
def State.advanceAddress (s : State) : State := s.setAddress (s.address.toNat + 1)

/-- mode <- m. -/
def State.setMode (s : State) (m : RwMode) : State := { s with mode := m }

/-- latched <- b. -/
def State.setLatched (s : State) (b : Bool) : State := { s with latched := b }

/-- latchByte <- b. -/
def State.setLatchByte (s : State) (b : Byte) : State := { s with latchByte := b }

/-- R[i] <- v. -/
def State.setReg (s : State) (i : BitVec 3) (v : Byte) : State := { s with regs := s.regs.set i v }

/-- status <- st. -/
def State.setStatus (s : State) (st : Byte) : State := { s with status := st }

/-- The scanline in progress replaced. -/
def State.setRender (s : State) (t : Option LineTask) : State := { s with render := t }

/-- The value a port operation hands back. -/
def State.answer (s : State) (r : PortResult) : State := { s with portOut := r }

/-- raise Diag.<Kind>(info): the event is appended to the list and nothing else changes (R6, R175). -/
def State.raise (s : State) (d : Diag) : State := { s with diags := s.diags ++ [d] }

/-- A free value has been drawn. -/
def State.draw (s : State) : State := { s with draws := s.draws + 1 }

/-- (status.F == 1) and (R[1][5] == 1) (R180). -/
def State.interruptPending (s : State) : Bool := statusF s.status && s.regs.interruptEnable

/-- The timestamp recorded for a category. -/
def TimingState.lookup : List (Nat × Nat) → Nat → Option Nat
  | [], _ => none
  | (c, t) :: l, cat => if cat = c then some t else TimingState.lookup l cat

/-- The timestamp of a category replaced; categories keep rising. -/
def TimingState.insert : List (Nat × Nat) → Nat → Nat → List (Nat × Nat)
  | [], cat, t => [(cat, t)]
  | (c, u) :: l, cat, t =>
    if cat < c then (cat, t) :: (c, u) :: l
    else if cat = c then (cat, t) :: l
    else (c, u) :: TimingState.insert l cat t

/-- The latest `elapsed` that the timing state knows of: the greatest timestamp or the epoch. -/
def TimingState.latest (t : TimingState) : Nat := t.last.foldl (fun m p => max m p.2) (t.epoch.getD 0)

/-- last[category] <- elapsed (R166). -/
def State.recordAccess (s : State) (cat elapsed : Nat) : State :=
  { s with timing := { s.timing with last := TimingState.insert s.timing.last cat elapsed } }

/-- gap <- elapsed - last[category] (R166); at the first access of the category a free value (DESIGN CHOICE,
safe: log entry 10). -/
def State.accessGap (s : State) (cat elapsed : Nat) : Nat :=
  match TimingState.lookup s.timing.last cat with
  | some t => elapsed - t
  | none => Config.firstGap cat elapsed

/-- The access category of a gated operation (R167). -/
def categoryOf (v : ValidatorParams) : TimedOp → Nat
  | .writeData => v.writeDataCategory
  | .writeCommand => v.writeCommandCategory
  | .readData => v.readDataCategory

/-- MIN_GAP looked up in its table. -/
def lookupGap : List (GapKey × Nat) → GapKey → Nat
  | [], _ => 0
  | (k, g) :: rows, key => if k = key then g else lookupGap rows key

/-- required <- MIN_GAP(category, DISP, isText, window(elapsed)) (R166, R167). -/
def State.requiredGap (s : State) (v : ValidatorParams) (cat elapsed : Nat) : Nat :=
  lookupGap v.minGap
    { category := cat
      display := s.regs.displayEnabled
      isText := decide (s.regs.modeOf = .text)
      window := Config.windowOf s.timing.epoch elapsed }

/-- What the gate answers. -/
inductive GateResult where
  | pass (s : State)
  | drop (s : State)
  | abort (f : Fault)
  | refuse (r : Refusal)
deriving DecidableEq, Repr

/-- Gate(category, elapsed) (R166). With the validator absent every access passes and `elapsed` is ignored (R165). A
decreasing `elapsed` is refused (U26; DEDUCED what it is measured against, safe: log entry 14). -/
def State.gate (s : State) (op : TimedOp) (elapsed : Nat) : GateResult :=
  match s.params.validator with
  | .absent => .pass s
  | .present v =>
    if elapsed < s.timing.latest then .refuse .elapsedDecreased
    else
      let cat := categoryOf v op
      let gap := s.accessGap cat elapsed
      let required := s.requiredGap v cat elapsed
      let s1 := s.recordAccess cat elapsed
      if required ≤ gap then .pass s1
      else
        match v.policy with
        | .warn => .pass (s1.raise (.timingViolation cat gap required))
        | .drop => .drop (s1.raise (.timingViolation cat gap required))
        | .abort => .abort (.timingAbort cat gap required)

/-- A gated operation: it runs on Pass; on Drop only `dropped` is done; Abort ends the run (R166). -/
def timed (op : TimedOp) (elapsed : Nat) (dropped run : State → State) (s : State) :
    Host.Outcome State Fault Refusal :=
  match s.gate op elapsed with
  | .pass s1 => .next (run s1)
  | .drop s1 => .next (dropped s1)
  | .abort f => .fault f
  | .refuse r => .refused r

/-- A dropped write "does nothing more"; it returns nothing (R166). -/
def dropWrite (s : State) : State := s.answer .nothing

/-- A dropped ReadData returns DROPPED_READ_VALUE, a free value (R166). -/
def dropRead (s : State) : State := (s.answer (.byte (Config.droppedReadValue s.draws))).draw

end Sys2Proof.Machine
end

