-- ==== Sys2Proof/Machine/Interrupt.lean ====
section
/-! DEFINITION. The interrupt surface INTP, CLRINT (60_exceptions.md) and RESET (70_reset_and_hazards.md). -/

namespace Sys2Proof.Machine

/-- INTP: returns the level of the interrupt request; no other effect (R180). -/
def execIntp (s : State) : Host.Outcome State Fault Refusal := .next (s.answer (.bool s.interruptPending))

/-- CLRINT: F <- 0 and nothing else (R181). -/
def execClrint (s : State) : Host.Outcome State Fault Refusal :=
  .next ((s.setStatus (clearF s.status)).answer .nothing)

/-- RESET (R195, R38): `mode` is RESET_MODE, a free value; latchByte and VRAM keep what they held; no sprite
bookkeeping and no register sample exist afterwards (that a scanline in progress is discarded is DEDUCED, unsafe: log
entry 6). The parameters, the trace, the diagnostics raised so far and what
earlier operations handed back are no state of the block and stay. -/
def execReset (s : State) : Host.Outcome State Fault Refusal :=
  .next { s.draw with
    status := 0x00
    timing := .initial
    latched := false
    regs := { r0 := 0x00, r1 := 0x00, r2 := 0x00, r3 := 0x00, r4 := 0x00, r5 := 0x00, r6 := 0x00, r7 := 0x00 }
    address := 0
    mode := Config.resetMode s.draws
    render := none }

end Sys2Proof.Machine
end

