-- ==== Sys2Proof/Machine/Port.lean ====
section
/-! DEFINITION. The port operations WD, RD, RS, WC1, SETRD, SETWR, REGW, CMDINV (40_port_protocol.md). Each is the
rule's pseudocode; the gated ones pass the timing gate first. -/

namespace Sys2Proof.Machine

/-- WriteData(value) past the gate (R90). -/
def writeData (value : Byte) (s : State) : State :=
  let s := if s.mode = .read then (s.raise (.writeInReadMode s.address value)).setMode .write else s
  (((s.memWrite s.address.toNat value).advanceAddress).setLatched false).answer .nothing

/-- WD (R90). -/
def execWd (value : Byte) (elapsed : Nat) (s : State) : Host.Outcome State Fault Refusal :=
  timed .writeData elapsed dropWrite (writeData value) s

/-- ReadData() past the gate (R97). -/
def readData (s : State) : State :=
  if s.mode = .read then
    ((s.advanceAddress).setLatched false).answer (.byte (s.memRead s.address.toNat))
  else
    (((s.raise (.readInWriteMode s.address)).setMode .read).setLatched false).answer (.byte 0xFF)

/-- RD (R97). -/
def execRd (elapsed : Nat) (s : State) : Host.Outcome State Fault Refusal :=
  timed .readData elapsed dropRead readData s

/-- RS: the status register is returned and cleared, with `latched`, in one step (R98). It is not gated (C6). -/
def execRs (s : State) : Host.Outcome State Fault Refusal :=
  .next (((s.setStatus 0x00).setLatched false).answer (.byte s.status))

/-- WC1(value) past the gate (R92). -/
def firstByte (value : Byte) (s : State) : State :=
  (((s.setLatchByte value).setAddress (replaceLowByte s.address value)).setLatched true).answer .nothing

/-- WC1 (R92). -/
def execWc1 (value : Byte) (elapsed : Nat) (s : State) : Host.Outcome State Fault Refusal :=
  timed .writeCommand elapsed dropWrite (firstByte value) s

/-- The address command of either class: 14 bits assembled, reduced, and the mode set (R63, R93, R94). -/
def addressCommand (m : RwMode) (addrHi : BitVec 6) (s : State) : State :=
  (((s.setAddress (assembleAddress addrHi s.latchByte)).setMode m).setLatched false).answer .nothing

/-- SETRD (R93). -/
def execSetrd (addrHi : BitVec 6) (elapsed : Nat) (s : State) : Host.Outcome State Fault Refusal :=
  timed .writeCommand elapsed dropWrite (addressCommand .read addrHi) s

/-- SETWR (R94). -/
def execSetwr (addrHi : BitVec 6) (elapsed : Nat) (s : State) : Host.Outcome State Fault Refusal :=
  timed .writeCommand elapsed dropWrite (addressCommand .write addrHi) s

/-- REGW past the gate: a 1 in a must-be-zero bit raises a diagnostic; the value is stored verbatim (R95). -/
def registerWrite (reg : BitVec 3) (s : State) : State :=
  let s := if s.latchByte &&& mustBeZero reg = 0 then s else s.raise (.reservedBits reg s.latchByte)
  ((s.setReg reg s.latchByte).setLatched false).answer .nothing

/-- REGW; bits 5:3 of the second byte are ignored (R95, R64). -/
def execRegw (reg : BitVec 3) (_ignored : BitVec 3) (elapsed : Nat) (s : State) :
    Host.Outcome State Fault Refusal :=
  timed .writeCommand elapsed dropWrite (registerWrite reg) s

/-- CMDINV past the gate: the diagnostic carries the whole second byte (R96). -/
def invalidCommand (ignored : BitVec 6) (s : State) : State :=
  ((s.raise (.invalidCommand s.latchByte (secondByte 0b11 ignored))).setLatched false).answer .nothing

/-- CMDINV (R96). -/
def execCmdinv (ignored : BitVec 6) (elapsed : Nat) (s : State) : Host.Outcome State Fault Refusal :=
  timed .writeCommand elapsed dropWrite (invalidCommand ignored) s

end Sys2Proof.Machine
end

