-- ==== Sys2Proof/Machine/Planes.lean ====
section
/-! DEFINITION. The plane renderers of one scanline: BlankRow (R116), Graphics1Row (R125), Graphics2Row (R130),
MulticolorRow (R135), TextRow (R140). `rd a` is MemRead(a, 1). -/

namespace Sys2Proof.Machine

/-- The first `n` pixels of a pattern byte, bit 7 leftmost: 1 is foreground, 0 background (R44). -/
def patternPixels (n : Nat) (pat : Byte) (fg bg : Colour) : Row :=
  (List.range n).map fun i => if pat.getLsbD (7 - i) then fg else bg

/-- BlankRow(r) (R116). -/
def blankRow (r : RegFile) : Row := List.replicate activeWidth r.backdrop

/-- One cell's 8 pixels from its pattern byte and its colour byte (R44, R115). -/
def colouredCell (r : RegFile) (pat col : Byte) : Row :=
  patternPixels 8 pat (r.resolve (hiNibble col)) (r.resolve (loNibble col))

/-- One Multicolor cell's 8 pixels: the left block and the right block (R135). -/
def blockCell (r : RegFile) (b : Byte) : Row :=
  List.replicate 4 (r.resolve (hiNibble b)) ++ List.replicate 4 (r.resolve (loNibble b))

/-- One Text cell's 6 pixels: bits 7 to 2 (R140, R141). -/
def textCell (r : RegFile) (pat : Byte) : Row := patternPixels 6 pat (r.resolve r.textForeground) r.backdrop

/-- Graphics1Row(y, r) (R125). -/
def graphics1Row (y : Nat) (r : RegFile) (rd : Nat → Byte) : Row :=
  (List.range 32).flatMap fun c =>
    let name := rd (r.nameAddress 32 y c)
    let pat := rd (glyphAddress r.patternTable name (y % 8))
    let col := rd (r.colourAddress name)
    colouredCell r pat col

/-- Graphics2Row(y, r) (R130): the bases are those of the third y div 64. -/
def graphics2Row (y : Nat) (r : RegFile) (rd : Nat → Byte) : Row :=
  (List.range 32).flatMap fun c =>
    let name := rd (r.nameAddress 32 y c)
    let pat := rd (glyphAddress (r.patternBase2 (y / 64)) name (y % 8))
    let col := rd (glyphAddress (r.colourBase2 (y / 64)) name (y % 8))
    colouredCell r pat col

/-- MulticolorRow(y, r) (R135). -/
def multicolorRow (y : Nat) (r : RegFile) (rd : Nat → Byte) : Row :=
  (List.range 32).flatMap fun c =>
    let name := rd (r.nameAddress 32 y c)
    let b := rd (glyphAddress r.patternTable name (subRow y))
    blockCell r b

/-- The 8 columns at each side of a Text row, in the backdrop colour (R142). -/
def textMargin (r : RegFile) : Row := List.replicate 8 r.backdrop

/-- TextRow(y, r) (R140). -/
def textRow (y : Nat) (r : RegFile) (rd : Nat → Byte) : Row :=
  let cells := (List.range 40).flatMap fun c =>
    let name := rd (r.nameAddress 40 y c)
    let pat := rd (glyphAddress r.patternTable name (y % 8))
    textCell r pat
  textMargin r ++ cells ++ textMargin r

end Sys2Proof.Machine
end

