-- ==== Sys2Proof/Machine/Sprites.lean ====
section
/-! DEFINITION. The sprite compositing engine on one scanline (46_sprites.md R145 to R157). `rd a` is MemRead(a, 1). -/

namespace Sys2Proof.Machine

/-- What the compositor writes: the row, the occupied columns (R29) and the status register. -/
structure Canvas where
  row : Row
  occupied : List Bool
  status : Byte
deriving DecidableEq, Repr

/-- No column occupied (R156). -/
def noneOccupied : List Bool := List.replicate activeWidth false

/-- One visible opaque pixel: on an occupied column C is set and the pixel stays; else the colour is written and the
column marked (R153). -/
def plot (colour : Colour) (dx : Nat) (cv : Canvas) : Canvas :=
  if cv.occupied.getD dx false then { cv with status := setC cv.status }
  else { cv with row := cv.row.set dx colour, occupied := cv.occupied.set dx true }

/-- The pixels of a source line, left to right. -/
def plotAll (colour : Colour) (columns : List Nat) (cv : Canvas) : Canvas :=
  columns.foldl (fun cv dx => plot colour dx cv) cv

/-- The source line of a sprite, bit `size - 1` leftmost: one byte, or left byte : right byte (R151). -/
def sourceBits (r : RegFile) (left right : Byte) : BitVec 16 :=
  if r.spriteSize = 16 then left ++ right else left.setWidth 16

/-- The device columns of sprite pixels on scanline y (R145, R151, R154, R155). -/
def spriteDeviceColumns (r : RegFile) (X attr left right : Byte) : List Nat :=
  spriteColumns r.spriteSize r.spriteScale (spriteLeftColumn X attr) (sourceBits r left right)

/-- One of the first four intersecting sprites: nothing when its colour is 0, else its pixels (R145, R152). -/
def drawSprite (bias : Int) (y : Nat) (r : RegFile) (rd : Nat → Byte) (n : Nat) (Y : Byte) (cv : Canvas) : Canvas :=
  let X := rd (r.attributeAddress n 1)
  let name := rd (r.attributeAddress n 2)
  let attr := rd (r.attributeAddress n 3)
  if attrColour attr = 0 then cv
  else
    let s := spriteLine bias r y Y
    let left := rd (r.spriteLeftAddress name s)
    let right := rd (r.spriteRightAddress name s)
    plotAll (attrColour attr) (spriteDeviceColumns r X attr left right) cv

/-- The walk of the attribute entries `ns`, `count` sprites having intersected so far: it ends at the sentinel
(R146) and at the fifth intersecting sprite (R150). -/
def spriteWalk (bias : Int) (y : Nat) (r : RegFile) (rd : Nat → Byte) : List Nat → Nat → Canvas → Canvas
  | [], _, cv => cv
  | n :: ns, count, cv =>
    let Y := rd (r.attributeAddress n 0)
    if Y = spriteSentinel then cv
    else if !spriteIntersects bias r y Y then spriteWalk bias y r rd ns count cv
    else if count = spritesPerLine then { cv with status := recordFifth n cv.status }
    else spriteWalk bias y r rd ns (count + 1) (drawSprite bias y r rd n Y cv)

/-- SpriteRow(y, r, row) (R145). -/
def spriteRow (bias : Int) (y : Nat) (r : RegFile) (rd : Nat → Byte) (row : Row) (status : Byte) : Row × Byte :=
  let cv := spriteWalk bias y r rd (List.range spriteEntries) 0
    { row := row, occupied := noneOccupied, status := status }
  (cv.row, cv.status)

end Sys2Proof.Machine
end

