-- ==== Sys2Proof/Machine/Render.lean ====
section
/-! DEFINITION. One scanline (R117), the entry points FRAME and LINE (R110, R111), and the mode dispatch rows MODE_*
(R113) that run in a scanline in progress. -/

namespace Sys2Proof.Machine

/-- ScanlineRow(y, r) once the mode is chosen (R117): the row and the status register after it. -/
def scanlineIn (m : DisplayMode) (bias : Int) (y : Nat) (r : RegFile) (rd : Nat → Byte) (status : Byte) : Row × Byte :=
  match m with
  | .blank => (blankRow r, status)
  | .text => (textRow y r rd, status)
  | .graphicsI => spriteRow bias y r rd (graphics1Row y r rd) status
  | .graphicsII => spriteRow bias y r rd (graphics2Row y r rd) status
  | .multicolor => spriteRow bias y r rd (multicolorRow y r rd) status

/-- ScanlineRow(y, r) (R117). -/
def scanlineRow (bias : Int) (y : Nat) (r : RegFile) (rd : Nat → Byte) (status : Byte) : Row × Byte :=
  scanlineIn r.modeOf bias y r rd status

/-- F is set after the last scanline (R118). -/
def endLine (index : Nat) (status : Byte) : Byte := if index = 191 then setF status else status

/-- Scanlines `ys` in this order: their rows, and the status register after them (R110). -/
def frameRows (bias : Int) (r : RegFile) (rd : Nat → Byte) : List Nat → Byte → List Row × Byte
  | [], status => ([], status)
  | y :: ys, status =>
    let line := scanlineRow bias y r rd status
    let rest := frameRows bias r rd ys line.2
    (line.1 :: rest.1, rest.2)

/-- The "frame redrawn" event at `elapsed`, with the validator present (R110, R167). The epoch becomes
`elapsed` even when it lies earlier: "never rewound except by" this event (R168; DEDUCED, unsafe: log entry 14). -/
def frameRedrawn (validator : Validator) (elapsed : Nat) (t : TimingState) : TimingState :=
  match validator with
  | .absent => t
  | .present _ => { t with epoch := some elapsed }

/-- FRAME (R110). -/
def execFrame (elapsed : Nat) (s : State) : Host.Outcome State Fault Refusal :=
  if s.render.isSome then .refused .renderInProgress
  else
    let f := frameRows s.params.spriteYBias s.regs s.memRead (List.range activeHeight) s.status
    .next { s with
      surface := f.1
      status := setF f.2
      timing := frameRedrawn s.params.validator elapsed s.timing }

/-- LINE (R111). -/
def execLine (index : Nat) (s : State) : Host.Outcome State Fault Refusal :=
  if activeHeight ≤ index then .refused (.scanlineOutOfRange index)
  else if s.render.isSome then .refused .renderInProgress
  else
    let line := scanlineRow s.params.spriteYBias index s.regs s.memRead s.status
    .next { s with
      lineOut := some (index, line.1)
      status := endLine index line.2 }

/-- The scanline in progress enters the renderer of mode `m` with its first byte read still to come; a blank row
reads nothing and is complete at once (R116). A Text row begins with its left margin (R142). -/
def enterPlane (m : DisplayMode) (t : LineTask) : LineTask :=
  match m with
  | .blank => { t with phase := .drawn, row := blankRow t.sample }
  | .text => { t with phase := .plane .text 0 [], row := textMargin t.sample }
  | .graphicsI => { t with phase := .plane .graphicsI 0 [], row := [] }
  | .graphicsII => { t with phase := .plane .graphicsII 0 [], row := [] }
  | .multicolor => { t with phase := .plane .multicolor 0 [], row := [] }

/-- The mode dispatch of the scanline in progress (R113, R117): undisturbed, the plane and then the sprites are drawn
at once; byte by byte, the plane is entered. That these rows are steps of their own is DESIGN CHOICE, safe: log entry
7. -/
def dispatchLine (m : DisplayMode) (s : State) : Host.Outcome State Fault Refusal :=
  match s.render with
  | none => .refused .noScanlineAtDispatch
  | some t =>
    if t.phase = .dispatch then
      match t.granularity with
      | .byByte => .next (s.setRender (some (enterPlane m t)))
      | .whole =>
        let line := scanlineIn m s.params.spriteYBias t.index t.sample s.memRead s.status
        .next ((s.setRender (some { t with phase := .drawn, row := line.1 })).setStatus line.2)
    else .refused .noScanlineAtDispatch

/-- MODE_BLANK, display disabled: BlankRow, no sprites (R113, R116). -/
def execModeBlank (s : State) : Host.Outcome State Fault Refusal := dispatchLine .blank s

/-- MODE_G1: Graphics1Row, then SpriteRow (R113, R125, R145). -/
def execModeG1 (s : State) : Host.Outcome State Fault Refusal := dispatchLine .graphicsI s

/-- MODE_G2: Graphics2Row, then SpriteRow (R113, R130, R145). -/
def execModeG2 (s : State) : Host.Outcome State Fault Refusal := dispatchLine .graphicsII s

/-- MODE_MC: MulticolorRow, then SpriteRow (R113, R135, R145). -/
def execModeMc (s : State) : Host.Outcome State Fault Refusal := dispatchLine .multicolor s

/-- MODE_TX: TextRow, no sprites (R113, R140). -/
def execModeTx (s : State) : Host.Outcome State Fault Refusal := dispatchLine .text s

/-- MODE_BLANK, Invalid (M2 and M3): BlankRow (R113). -/
def execModeInvalidM2M3 (s : State) : Host.Outcome State Fault Refusal := dispatchLine .blank s

/-- MODE_BLANK, Invalid (M1 and M3): BlankRow (R113). -/
def execModeInvalidM1M3 (s : State) : Host.Outcome State Fault Refusal := dispatchLine .blank s

/-- MODE_BLANK, Invalid (M1 and M2): BlankRow (R113). -/
def execModeInvalidM1M2 (s : State) : Host.Outcome State Fault Refusal := dispatchLine .blank s

/-- MODE_BLANK, Invalid (all three): BlankRow (R113). -/
def execModeInvalidAll (s : State) : Host.Outcome State Fault Refusal := dispatchLine .blank s

end Sys2Proof.Machine
end

