-- ==== Sys2Proof/Machine/Dispatch.lean ====
section
/-! DEFINITION. One arm per operation. -/

namespace Sys2Proof.Machine

def exec (i : Instr) (s : State) : Host.Outcome State Fault Refusal :=
  match i with
  | .wd value elapsed => Sys2Proof.Machine.execWd value elapsed s
  | .rd elapsed => Sys2Proof.Machine.execRd elapsed s
  | .rs => Sys2Proof.Machine.execRs s
  | .wc1 value elapsed => Sys2Proof.Machine.execWc1 value elapsed s
  | .setrd addrHi elapsed => Sys2Proof.Machine.execSetrd addrHi elapsed s
  | .setwr addrHi elapsed => Sys2Proof.Machine.execSetwr addrHi elapsed s
  | .regw reg ignored elapsed => Sys2Proof.Machine.execRegw reg ignored elapsed s
  | .cmdinv ignored elapsed => Sys2Proof.Machine.execCmdinv ignored elapsed s
  | .intp => Sys2Proof.Machine.execIntp s
  | .clrint => Sys2Proof.Machine.execClrint s
  | .frame elapsed => Sys2Proof.Machine.execFrame elapsed s
  | .line index => Sys2Proof.Machine.execLine index s
  | .reset => Sys2Proof.Machine.execReset s
  | .modeBlank => Sys2Proof.Machine.execModeBlank s
  | .modeG1 => Sys2Proof.Machine.execModeG1 s
  | .modeG2 => Sys2Proof.Machine.execModeG2 s
  | .modeMc => Sys2Proof.Machine.execModeMc s
  | .modeTx => Sys2Proof.Machine.execModeTx s
  | .modeInvalidM2M3 => Sys2Proof.Machine.execModeInvalidM2M3 s
  | .modeInvalidM1M3 => Sys2Proof.Machine.execModeInvalidM1M3 s
  | .modeInvalidM1M2 => Sys2Proof.Machine.execModeInvalidM1M2 s
  | .modeInvalidAll => Sys2Proof.Machine.execModeInvalidAll s

end Sys2Proof.Machine
end

