-- ==== Sys2Proof/Machine/Realtime.lean ====
section
/-! DEFINITION. The real-time deployment (R51, R52): the render agent's scanline as a sequence of atomic actions, one
byte read or one pixel each, in the order of R114, R126, R132, R137, R143 and R157, between which port operations can
land. -/

namespace Sys2Proof.Machine

/-- A register sample of which no byte has been read: each is overwritten before the mode dispatch. -/
def RegFile.unread : RegFile :=
  { r0 := 0x00, r1 := 0x00, r2 := 0x00, r3 := 0x00, r4 := 0x00, r5 := 0x00, r6 := 0x00, r7 := 0x00 }

/-- The scanline as it begins (R114): undisturbed, with the register sample taken; byte by byte, with R[0] to read
next. -/
def newLine (index : Nat) (g : Granularity) (r : RegFile) : LineTask :=
  match g with
  | .whole => { index := index, sample := r, granularity := .whole, phase := .dispatch, row := [] }
  | .byByte => { index := index, sample := .unread, granularity := .byByte, phase := .sampling 0, row := [] }

/-- RenderScanline(index) begins (R111, R114). -/
def startLine (index : Nat) (g : Granularity) (s : State) : Host.Outcome State Fault Refusal :=
  if activeHeight ≤ index then .refused (.scanlineOutOfRange index)
  else if s.render.isSome then .refused .renderInProgress
  else .next (s.setRender (some (newLine index g s.regs)))

/-- One register byte read into the sample, in the order R[0] to R[7] of R114 (the order is DEDUCED, unsafe: log entry
11); after R[7] comes the mode dispatch. -/
def sampleAction (n : Nat) (t : LineTask) (s : State) : State :=
  let i := BitVec.ofNat 3 n
  s.setRender (some { t with
    sample := t.sample.set i (s.regs.get i)
    phase := if n + 1 < registerCount then .sampling (n + 1) else .dispatch })

/-- RenderScanline(index) ends: F after scanline 191, and the row is returned (R111, R118). -/
def finishLine (t : LineTask) (s : State) : State :=
  { s with
    status := endLine t.index s.status
    lineOut := some (t.index, t.row)
    render := none }

/-- Cells of a row of a plane (R125, R130, R135, R140). -/
def cellsPerRow : DisplayMode → Nat
  | .graphicsI | .graphicsII | .multicolor => 32
  | .text => 40
  | .blank => 0

/-- Bytes read for one cell: name, pattern and, in the Graphics modes, colour. -/
def readsPerCell : DisplayMode → Nat
  | .graphicsI | .graphicsII => 3
  | .multicolor | .text => 2
  | .blank => 0

/-- The address of the next byte of cell c, given those read so far: the name, then the pattern byte, then the colour
byte (R126, R132, R137, R143). -/
def cellReadAddress (m : DisplayMode) (y c : Nat) (r : RegFile) (got : List Byte) : Nat :=
  match m, got with
  | .graphicsI, [] => r.nameAddress 32 y c
  | .graphicsI, [name] => glyphAddress r.patternTable name (y % 8)
  | .graphicsI, name :: _ => r.colourAddress name
  | .graphicsII, [] => r.nameAddress 32 y c
  | .graphicsII, [name] => glyphAddress (r.patternBase2 (y / 64)) name (y % 8)
  | .graphicsII, name :: _ => glyphAddress (r.colourBase2 (y / 64)) name (y % 8)
  | .multicolor, [] => r.nameAddress 32 y c
  | .multicolor, name :: _ => glyphAddress r.patternTable name (subRow y)
  | .text, [] => r.nameAddress 40 y c
  | .text, name :: _ => glyphAddress r.patternTable name (y % 8)
  | .blank, _ => 0

/-- The pixels of a cell whose bytes have all been read. -/
def cellPixels (m : DisplayMode) (r : RegFile) (got : List Byte) : Row :=
  match m, got with
  | .graphicsI, [_, pat, col] => colouredCell r pat col
  | .graphicsII, [_, pat, col] => colouredCell r pat col
  | .multicolor, [_, b] => blockCell r b
  | .text, [_, pat] => textCell r pat
  | _, _ => []

/-- After the last cell: a Text row gets its right margin and is complete; in the other planes the sprite walk begins
with count 0 and no column occupied (R117, R156). -/
def endPlane (m : DisplayMode) (t : LineTask) : LineTask :=
  match m with
  | .text => { t with phase := .drawn, row := t.row ++ textMargin t.sample }
  | .blank => { t with phase := .drawn }
  | .graphicsI | .graphicsII | .multicolor => { t with phase := .sprite 0 0 noneOccupied [] }

/-- One byte read in a plane. -/
def planeAction (m : DisplayMode) (c : Nat) (got : List Byte) (t : LineTask) (s : State) : State :=
  let got := got ++ [s.memRead (cellReadAddress m t.index c t.sample got)]
  if got.length < readsPerCell m then s.setRender (some { t with phase := .plane m c got })
  else
    let t := { t with row := t.row ++ cellPixels m t.sample got }
    if c + 1 < cellsPerRow m then s.setRender (some { t with phase := .plane m (c + 1) [] })
    else s.setRender (some (endPlane m t))

/-- The phase after entry n: the next entry, or the end of the table (R145). -/
def afterEntry (n count : Nat) (occupied : List Bool) : LinePhase :=
  if n + 1 < spriteEntries then .sprite (n + 1) count occupied [] else .drawn

/-- The phase once the pattern of entry n is read: its pixels, if it has any. -/
def beginOverlay (n count : Nat) (occupied : List Bool) (colour : Colour) (columns : List Nat) : LinePhase :=
  match columns with
  | [] => afterEntry n count occupied
  | _ :: _ => .overlay n count occupied colour columns

/-- The Y byte of entry n read: the sentinel ends the walk (R146); an entry off the scanline is passed over (R149);
the fifth intersecting entry sets S5 with FSN and ends the walk (R150); the others go on to their X byte. -/
def spriteYAction (n count : Nat) (occupied : List Bool) (t : LineTask) (s : State) : State :=
  let Y := s.memRead (t.sample.attributeAddress n 0)
  if Y = spriteSentinel then s.setRender (some { t with phase := .drawn })
  else if !spriteIntersects s.params.spriteYBias t.sample t.index Y then
    s.setRender (some { t with phase := afterEntry n count occupied })
  else if count = spritesPerLine then
    (s.setRender (some { t with phase := .drawn })).setStatus (recordFifth n s.status)
  else s.setRender (some { t with phase := .sprite n (count + 1) occupied [Y] })

/-- One byte read in the sprite walk, in the order of R157. -/
def spriteAction (n count : Nat) (occupied : List Bool) (got : List Byte) (t : LineTask) (s : State) : State :=
  match got with
  | [] => spriteYAction n count occupied t s
  | [Y] => s.setRender (some { t with phase := .sprite n count occupied [Y, s.memRead (t.sample.attributeAddress n 1)] })
  | [Y, X] =>
    s.setRender (some { t with phase := .sprite n count occupied [Y, X, s.memRead (t.sample.attributeAddress n 2)] })
  | [Y, X, name] =>
    let attr := s.memRead (t.sample.attributeAddress n 3)
    if attrColour attr = 0 then s.setRender (some { t with phase := afterEntry n count occupied })
    else s.setRender (some { t with phase := .sprite n count occupied [Y, X, name, attr] })
  | [Y, X, name, attr] =>
    let left := s.memRead (t.sample.spriteLeftAddress name (spriteLine s.params.spriteYBias t.sample t.index Y))
    if t.sample.spriteSize = 16 then
      s.setRender (some { t with phase := .sprite n count occupied [Y, X, name, attr, left] })
    else
      s.setRender (some { t with
        phase := beginOverlay n count occupied (attrColour attr) (spriteDeviceColumns t.sample X attr left 0) })
  | Y :: X :: name :: attr :: left :: _ =>
    let right := s.memRead (t.sample.spriteRightAddress name (spriteLine s.params.spriteYBias t.sample t.index Y))
    s.setRender (some { t with
      phase := beginOverlay n count occupied (attrColour attr) (spriteDeviceColumns t.sample X attr left right) })

/-- One pixel of sprite n with its C update (R153, R54), one action (DEDUCED, unsafe: log entry 12). -/
def overlayAction (n count : Nat) (occupied : List Bool) (colour : Colour) (columns : List Nat) (t : LineTask)
    (s : State) : State :=
  match columns with
  | [] => s.setRender (some { t with phase := afterEntry n count occupied })
  | dx :: rest =>
    let cv := plot colour dx { row := t.row, occupied := occupied, status := s.status }
    (s.setRender (some { t with phase := beginOverlay n count cv.occupied colour rest, row := cv.row })).setStatus
      cv.status

/-- The next action of the render agent before and after the mode dispatch. -/
def renderAction (t : LineTask) (s : State) : State :=
  match t.phase with
  | .sampling n => sampleAction n t s
  | .dispatch => s
  | .plane m c got => planeAction m c got t s
  | .sprite n count occupied got => spriteAction n count occupied got t s
  | .overlay n count occupied colour columns => overlayAction n count occupied colour columns t s
  | .drawn => finishLine t s

end Sys2Proof.Machine
end

