-- ==== Sys2Proof/Machine/Fetch.lean ====
section
/-! DEFINITION. What the next step does: the next event of the trace, and the instruction that the decoder reads from
it or from the register sample. -/

namespace Sys2Proof.Machine

/-- What a step does. -/
inductive Action where
  /-- Nothing: the trace is exhausted, or the render agent has no scanline in progress. -/
  | idle
  | run (i : Instr)
  | startLine (index : Nat) (granularity : Granularity)
  | render (t : LineTask)
  | reject (r : Refusal)
deriving DecidableEq, Repr

/-- A decoder's refusal as a refusal of the machine. -/
def refusalOf : Reject → Refusal
  | .scanlineOutOfRange index => .scanlineOutOfRange index

/-- Decoding as an action. -/
def decodeAction (c : Code) : Action :=
  match decode c with
  | .ok i => .run i
  | .error e => .reject (refusalOf e)

/-- The code of the next event, when that event selects an operation: an access in the present latch phase (R66), or,
for a scanline that waits for its mode dispatch, the mode word of its sample (R113). -/
def State.fetchCode (s : State) : Option Code :=
  match s.trace with
  | .op a :: _ => some (.access s.latched a)
  | .renderNext :: _ =>
    match s.render with
    | some t => if t.phase = .dispatch then some (.modeWord t.sample.modeWord) else none
    | none => none
  | _ => none

/-- The next action. -/
def State.nextAction (s : State) : Action :=
  match s.fetchCode with
  | some c => decodeAction c
  | none =>
    match s.trace with
    | .lineStart index g :: _ => .startLine index g
    | .renderNext :: _ =>
      match s.render with
      | some t => .render t
      | none => .idle
    | _ => .idle

/-- The event is taken off the trace. -/
def State.advance (s : State) : State := { s with trace := s.trace.tail }

/-- `ev` placed as the next event of the trace. -/
def State.withEvent (s : State) (ev : Event) : State := { s with trace := ev :: s.trace }

/-- A register sample whose mode word is `w`. -/
def RegFile.withModeWord (r : RegFile) (w : BitVec 16) : RegFile :=
  { r with r0 := w.extractLsb' 0 8, r1 := w.extractLsb' 8 8 }

/-- A command byte that comes next, in the second phase. -/
def State.withSecondByte (s : State) (b : Byte) : State := (s.setLatched true).withEvent (.op (.commandWrite b 0))

/-- A scanline that waits for its mode dispatch on a sample with mode word `w`, and goes on next. -/
def State.withModeDispatch (s : State) (w : BitVec 16) : State :=
  (s.setRender (some
    { index := 0, sample := s.regs.withModeWord w, granularity := .whole, phase := .dispatch, row := [] })).withEvent
      .renderNext

end Sys2Proof.Machine
end

