-- ==== Sys2Proof/Machine/Step.lean ====
section
/-! DEFINITION. One step: one event of the trace. -/

namespace Sys2Proof.Machine

/-- The next event of the trace is taken off and run. An exhausted trace leaves the machine as it is
(DESIGN CHOICE, safe: log entry 5). -/
def step (s : State) : Host.Outcome State Fault Refusal :=
  match s.nextAction with
  | .idle => .next s.advance
  | .run i => exec i s.advance
  | .startLine index g => startLine index g s.advance
  | .render t => .next (renderAction t s.advance)
  | .reject r => .refused r

/-- The instruction of a table word comes next: a word of 8 bits is a second command byte, a word of 16 bits the mode
word of a scanline that waits for its dispatch (see `decodeTableWord`). -/
def State.withFetchWord (s : State) (nbits w : Nat) : State :=
  if nbits = 16 then s.withModeDispatch (BitVec.ofNat 16 w) else s.withSecondByte (BitVec.ofNat 8 w)

end Sys2Proof.Machine
end

