-- ==== Sys2Proof/Safety.lean ====
section
/-! DEFINITION. The terms that claims about the block use: its invariant, what passes the timing gate, which sprites are
on a scanline and which columns they cover. -/

namespace Sys2Proof.Machine

/-- The columns of a plane's row that stand before its first cell, and the width of a cell. -/
def planeMargin : DisplayMode → Nat
  | .text => 8
  | .blank | .graphicsI | .graphicsII | .multicolor => 0

/-- Device pixels of one cell across (R70). -/
def cellWidth : DisplayMode → Nat
  | .text => 6
  | .blank | .graphicsI | .graphicsII | .multicolor => 8

/-- Where a scanline in progress can stand. -/
def PhaseInv (t : LineTask) : Prop :=
  match t.phase with
  | .sampling n => n < registerCount
  | .dispatch => True
  | .plane m c got =>
    c < cellsPerRow m ∧ got.length < readsPerCell m ∧ t.row.length = planeMargin m + c * cellWidth m
  | .sprite n count occupied got =>
    n < spriteEntries ∧ count ≤ spritesPerLine ∧ (got ≠ [] → 1 ≤ count) ∧ got.length ≤ 5 ∧
      (∀ attr, got[3]? = some attr → attrColour attr ≠ 0) ∧ occupied.length = activeWidth ∧ t.row.length = activeWidth
  | .overlay n count occupied colour columns =>
    n < spriteEntries ∧ 1 ≤ count ∧ count ≤ spritesPerLine ∧ colour ≠ 0 ∧ columns ≠ [] ∧
      (∀ dx ∈ columns, dx < activeWidth) ∧ occupied.length = activeWidth ∧ t.row.length = activeWidth
  | .drawn => t.row.length = activeWidth

/-- Categories rise strictly, from `lo` on. -/
def TimingState.sortedFrom : Nat → List (Nat × Nat) → Bool
  | _, [] => true
  | lo, (c, _) :: l => decide (lo ≤ c) && TimingState.sortedFrom (c + 1) l

/-- The invariant of the block. -/
structure Inv (s : State) : Prop where
  /-- VRAM is in canonical form and inside VRAM_SIZE (R26). -/
  vram_canonical : s.vramWf = true
  vram_below : Memory.below s.vramBytes s.vram = true
  /-- "0 <= address < VRAM_SIZE at all times" (R22). -/
  address_below : s.address.toNat < s.vramBytes
  /-- "FSN is 0 whenever S5 is 0" (R150). -/
  fsn_zero : statusS5 s.status = false → statusFSN s.status = 0
  /-- The timestamps are in canonical form. -/
  timing_sorted : TimingState.sortedFrom 0 s.timing.last = true
  /-- A scanline in progress has an index inside 0..191 and stands somewhere that a scanline can stand. -/
  line_in_progress : ∀ t, s.render = some t → t.index < activeHeight ∧ PhaseInv t
  /-- A returned row has 256 codes (R112). -/
  line_returned : ∀ p, s.lineOut = some p → p.1 < activeHeight ∧ p.2.length = activeWidth
  /-- A frame on the surface is 192 rows of 256 codes (R112). -/
  frame_written : s.surface = [] ∨ (s.surface.length = activeHeight ∧ ∀ row ∈ s.surface, row.length = activeWidth)

/-- The timed access `op` at `elapsed` comes too soon: the validator is present, `elapsed` does not decrease, and the
gap is below the required gap (R166). -/
def TooSoon (v : ValidatorParams) (op : TimedOp) (elapsed : Nat) (s : State) : Prop :=
  s.params.validator = .present v ∧ s.timing.latest ≤ elapsed ∧
    s.accessGap (categoryOf v op) elapsed < s.requiredGap v (categoryOf v op) elapsed

/-- The access `op` at `elapsed` passes the gate in state `s`, and the operation finds the state `s1`: the validator is
absent; or it is present and the gap suffices; or the gap is too small and POLICY is Warn (R165, R166). -/
def PassesGate (op : TimedOp) (elapsed : Nat) (s s1 : State) : Prop :=
  (s.params.validator = .absent ∧ s1 = s) ∨
  (∃ v, s.params.validator = .present v ∧ s.timing.latest ≤ elapsed ∧
    s.requiredGap v (categoryOf v op) elapsed ≤ s.accessGap (categoryOf v op) elapsed ∧
    s1 = s.recordAccess (categoryOf v op) elapsed) ∨
  (∃ v, TooSoon v op elapsed s ∧ v.policy = .warn ∧
    s1 = (s.recordAccess (categoryOf v op) elapsed).raise
      (.timingViolation (categoryOf v op) (s.accessGap (categoryOf v op) elapsed)
        (s.requiredGap v (categoryOf v op) elapsed)))

/-- The gated operations with their `elapsed` (R166). -/
def timedOf : Instr → Option (TimedOp × Nat)
  | .wd _ elapsed => some (.writeData, elapsed)
  | .rd elapsed => some (.readData, elapsed)
  | .wc1 _ elapsed | .setrd _ elapsed | .setwr _ elapsed | .regw _ _ elapsed | .cmdinv _ elapsed =>
    some (.writeCommand, elapsed)
  | .rs | .intp | .clrint | .frame _ | .line _ | .reset => none
  | .modeBlank | .modeG1 | .modeG2 | .modeMc | .modeTx => none
  | .modeInvalidM2M3 | .modeInvalidM1M3 | .modeInvalidM1M2 | .modeInvalidAll => none

/-- The violation counter: how many TimingViolation events have been raised (R169). -/
def violations (ds : List Diag) : Nat :=
  ds.countP fun
    | .timingViolation _ _ _ => true
    | _ => false

/-- The mode dispatch rows. -/
def modeRows : List Instr :=
  [.modeBlank, .modeG1, .modeG2, .modeMc, .modeTx, .modeInvalidM2M3, .modeInvalidM1M3, .modeInvalidM1M2,
    .modeInvalidAll]

/-- The rows of the table whose mode is Blank. -/
def blankRows : List Instr :=
  [.modeBlank, .modeInvalidM2M3, .modeInvalidM1M3, .modeInvalidM1M2, .modeInvalidAll]

/-- The state in which the scanline in progress `t` has been drawn with the row and status `p`. -/
def drawnAs (s : State) (t : LineTask) (p : Row × Byte) : State :=
  { s with render := some { t with phase := .drawn, row := p.1 }, status := p.2 }

/-- The entries before the sentinel that intersect scanline y, in index order (R146, R149). -/
def spritesOn (bias : Int) (y : Nat) (r : RegFile) (rd : Nat → Byte) : List Nat :=
  ((List.range spriteEntries).takeWhile fun n => decide (rd (r.attributeAddress n 0) ≠ spriteSentinel)).filter
    fun n => spriteIntersects bias r y (rd (r.attributeAddress n 0))

/-- The colour of entry n. -/
def entryColour (r : RegFile) (rd : Nat → Byte) (n : Nat) : Colour := attrColour (rd (r.attributeAddress n 3))

/-- The device columns of the opaque pixels of entry n on scanline y; none for colour 0 (R151 to R155). -/
def opaqueColumns (bias : Int) (y : Nat) (r : RegFile) (rd : Nat → Byte) (n : Nat) : List Nat :=
  let name := rd (r.attributeAddress n 2)
  let s := spriteLine bias r y (rd (r.attributeAddress n 0))
  if entryColour r rd n = 0 then []
  else
    spriteDeviceColumns r (rd (r.attributeAddress n 1)) (rd (r.attributeAddress n 3))
      (rd (r.spriteLeftAddress name s)) (rd (r.spriteRightAddress name s))

/-- The events of the render agent and the two calls that look at the interrupt: what leaves the access state alone
(R100). -/
def Event.leavesAccessState : Event → Bool
  | .op .isInterruptPending | .op .clearInterrupt | .op (.renderFrame _) | .op (.renderScanline _) => true
  | .op (.dataWrite _ _) | .op (.dataRead _) | .op .commandRead | .op (.commandWrite _ _) | .op .reset => false
  | .lineStart _ _ | .renderNext => true

end Sys2Proof.Machine
end

