-- ==== Sys2Proof/Certificates/Slice0/Obligations.lean ====
section
/-! DEFINITION. The statements about the model, for the provers. -/

open Sys2Proof Sys2Proof.Machine

/-- Decode and encode agree, for every operation with every operand at every value (R60 to R68). -/
def Obligations.DecodeOfEncodeIsTheInstruction : Prop :=
  ∀ i : Instr, i.wf = true → decode (encode i) = .ok i

/-- Words written out from R62, R65 and R68 decode to what they stand for. -/
def Obligations.WordsOfTheSpecDecode : Prop :=
  decode (.access false (.commandWrite 0xC0 0)) = .ok (.wc1 0xC0 0) ∧
  decode (.access true (.commandWrite 0x00 0)) = .ok (.setrd 0x00 0) ∧
  decode (.access true (.commandWrite 0x7F 0)) = .ok (.setwr 0x3F 0) ∧
  decode (.access true (.commandWrite 0x81 0)) = .ok (.regw 1 0 0) ∧
  decode (.access true (.commandWrite 0xBF 0)) = .ok (.regw 7 7 0) ∧
  decode (.access true (.commandWrite 0xC0 0)) = .ok (.cmdinv 0 0) ∧
  decode (.modeWord 0xC003) = .ok .modeG2 ∧
  decode (.modeWord 0x1002) = .ok .modeBlank ∧
  decode (.modeWord 0xD002) = .ok .modeInvalidM1M3

/-- A command byte is a first byte in phase false whatever its value; in phase true bits 7:6 choose the class, and the
operands are bits 5:0, or bits 2:0 with bits 5:3 ignored (R61, R62, R64, R91). -/
def Obligations.CommandByteDecodesByPhaseAndClass : Prop :=
  ∀ (v : Byte) (e : Nat),
    decode (.access false (.commandWrite v e)) = .ok (.wc1 v e) ∧
    (v &&& 0xC0 = 0x00 → decode (.access true (.commandWrite v e)) = .ok (.setrd (BitVec.ofNat 6 v.toNat) e)) ∧
    (v &&& 0xC0 = 0x40 → decode (.access true (.commandWrite v e)) = .ok (.setwr (BitVec.ofNat 6 v.toNat) e)) ∧
    (v &&& 0xC0 = 0x80 → decode (.access true (.commandWrite v e)) =
      .ok (.regw (BitVec.ofNat 3 v.toNat) (BitVec.ofNat 3 (v.toNat / 8)) e)) ∧
    (v &&& 0xC0 = 0xC0 → decode (.access true (.commandWrite v e)) = .ok (.cmdinv (BitVec.ofNat 6 v.toNat) e))

/-- The mode row that a register sample selects, by DISP = R[1][6], M1 = R[1][4], M2 = R[1][3], M3 = R[0][1]; and the
mode of the renderers is the same (R68, R113). -/
def Obligations.ModeCodeSelectsTheRow : Prop :=
  ∀ r : RegFile,
    let row := decode (.modeWord (r.r1 ++ r.r0))
    let code := (r.r1.getLsbD 4, r.r1.getLsbD 3, r.r0.getLsbD 1)
    (r.r1.getLsbD 6 = false → row = .ok .modeBlank ∧ r.modeOf = .blank) ∧
    (r.r1.getLsbD 6 = true →
      (code = (false, false, false) → row = .ok .modeG1 ∧ r.modeOf = .graphicsI) ∧
      (code = (false, false, true) → row = .ok .modeG2 ∧ r.modeOf = .graphicsII) ∧
      (code = (false, true, false) → row = .ok .modeMc ∧ r.modeOf = .multicolor) ∧
      (code = (true, false, false) → row = .ok .modeTx ∧ r.modeOf = .text) ∧
      (code = (false, true, true) → row = .ok .modeInvalidM2M3 ∧ r.modeOf = .blank) ∧
      (code = (true, false, true) → row = .ok .modeInvalidM1M3 ∧ r.modeOf = .blank) ∧
      (code = (true, true, false) → row = .ok .modeInvalidM1M2 ∧ r.modeOf = .blank) ∧
      (code = (true, true, true) → row = .ok .modeInvalidAll ∧ r.modeOf = .blank))

/-- A step takes the next event off the trace and runs the operation decoded from it: from an access in the present
latch phase (R66, R211), or from the mode word of a scanline that waits for its dispatch. That a mode row is an
instruction that a step of its own runs is the model's choice (log entry 7). -/
def Obligations.StepRunsTheDecodedInstruction : Prop :=
  ∀ (s : State) (rest : List Event) (i : Instr),
    (∀ a, s.trace = .op a :: rest → decode (.access s.latched a) = .ok i →
      step s = exec i { s with trace := rest }) ∧
    (∀ t, s.trace = .renderNext :: rest → s.render = some t → t.phase = .dispatch →
      decode (.modeWord (t.sample.r1 ++ t.sample.r0)) = .ok i → step s = exec i { s with trace := rest })

/-- A step with an exhausted trace, or a move of a render agent that has nothing to do, changes nothing else (the
model's choice, log entry 5); an access that does not decode is refused by name. -/
def Obligations.StepWithoutAnOperation : Prop :=
  ∀ (s : State) (rest : List Event),
    (s.trace = [] → step s = .next s) ∧
    (s.trace = .renderNext :: rest → s.render = none → step s = .next { s with trace := rest }) ∧
    (∀ index, s.trace = .op (.renderScanline index) :: rest → 192 ≤ index →
      step s = .refused (.scanlineOutOfRange index))

/-- The start of a scanline in the real-time deployment: undisturbed it has the eight registers as they are; byte by byte
the sample is read one register a step, R[0] first (R52, R114, decision D21; the order is the model's inference, log entry
11), and with no port operation in between it is the register file. The start is refused for an index outside 0..191 (R111)
or while another scanline is in progress (R212). -/
def Obligations.LineStartTakesTheRegisterSample : Prop :=
  ∀ (s : State) (index : Nat) (g : Granularity) (rest : List Event),
    let start := { s with trace := .lineStart index g :: rest }
    (index < 192 → s.render = none → g = .whole → step start = .next { s with
      trace := rest
      render := some { index := index, sample := s.regs, granularity := g, phase := .dispatch, row := [] } }) ∧
    (index < 192 → s.render = none → g = .byByte →
      (∃ q, step start = .next { s with
        trace := rest
        render := some { index := index, sample := q, granularity := g, phase := .sampling 0, row := [] } }) ∧
      core.run 9 { s with trace := .lineStart index g :: List.replicate 8 .renderNext } = .next { s with
        trace := []
        render := some { index := index, sample := s.regs, granularity := g, phase := .dispatch, row := [] } }) ∧
    (∀ t n, s.render = some t → t.phase = .sampling n → n < 8 →
      ∃ q, step { s with trace := .renderNext :: rest } = .next { s with
        trace := rest
        render := some { t with sample := q, phase := if n = 7 then .dispatch else .sampling (n + 1) } } ∧
        q.get (BitVec.ofNat 3 n) = s.regs.get (BitVec.ofNat 3 n) ∧
        ∀ other, other ≠ BitVec.ofNat 3 n → q.get other = t.sample.get other) ∧
    (192 ≤ index → step start = .refused (.scanlineOutOfRange index)) ∧
    (index < 192 → s.render ≠ none → step start = .refused .renderInProgress)

/-- The end of a scanline in the real-time deployment: the row is returned, and F is set after scanline 191 (R111,
R118, decision D17). That the return, the setting of F and the end of the scanline are one step is the model's inference
(log entry 12). -/
def Obligations.DrawnLineIsReturned : Prop :=
  ∀ (s : State) (t : LineTask) (rest : List Event),
    s.trace = .renderNext :: rest → s.render = some t → t.phase = .drawn →
    step s = .next { s with
      trace := rest
      render := none
      lineOut := some (t.index, t.row)
      status := if t.index = 191 then s.status ||| 0x80 else s.status }

/-- WriteData: the byte is stored at `address` in either mode, `address` advances and wraps, `latched` clears, a write
in Read mode turns the mode around with a diagnostic; no other byte of VRAM and nothing else changes (R90). VRAM in
canonical form is part of the invariant. -/
def Obligations.WriteDataStoresTheByteAndAdvances : Prop :=
  ∀ (v : Byte) (e : Nat) (s s1 : State), s.vramWf = true → PassesGate .writeData e s s1 →
    ∃ t, exec (.wd v e) s = .next t ∧
      t = { s1 with
        vram := t.vram
        address := t.address
        mode := .write
        latched := false
        portOut := .nothing
        diags := s1.diags ++ (if s1.mode = .read then [.writeInReadMode s1.address v] else []) } ∧
      t.address.toNat = (s1.address.toNat + 1) % s1.vramBytes ∧
      t.memRead s1.address.toNat = v ∧
      ∀ a, a % s1.vramBytes ≠ s1.address.toNat % s1.vramBytes → t.memRead a = s1.memRead a

/-- ReadData: in Read mode the byte at `address` is returned and `address` advances and wraps; in Write mode 0xFF is
returned, the mode turns to Read with a diagnostic, and `address` stays (the spec's decision D18); `latched` clears in
both (R97). -/
def Obligations.ReadDataReturnsTheByteOrTurnsTheMode : Prop :=
  ∀ (e : Nat) (s s1 : State), PassesGate .readData e s s1 →
    (s1.mode = .read → ∃ t, exec (.rd e) s = .next t ∧
      t = { s1 with
        address := t.address
        latched := false
        portOut := .byte (s1.memRead s1.address.toNat) } ∧
      t.address.toNat = (s1.address.toNat + 1) % s1.vramBytes) ∧
    (s1.mode = .write → exec (.rd e) s = .next { s1 with
      mode := .read
      latched := false
      portOut := .byte 0xFF
      diags := s1.diags ++ [.readInWriteMode s1.address] })

/-- ReadStatus returns the status register and clears its four fields and `latched`; a second ReadStatus returns 0. It
passes no gate (R98). -/
def Obligations.ReadStatusReturnsAndClears : Prop :=
  ∀ s : State, ∃ t, exec .rs s = .next t ∧
    t = { s with status := 0x00, latched := false, portOut := .byte s.status } ∧
    exec .rs t = .next { t with portOut := .byte 0x00 }

/-- The first command byte becomes latchByte and at once the low byte of `address`; bits 13:8 stay, `mode` stays,
`latched` is set (R92). -/
def Obligations.FirstByteReplacesTheLowAddressByte : Prop :=
  ∀ (v : Byte) (e : Nat) (s s1 : State), PassesGate .writeCommand e s s1 →
    ∃ t, exec (.wc1 v e) s = .next t ∧
      t = { s1 with latchByte := v, address := t.address, latched := true, portOut := .nothing } ∧
      t.address.toNat = (s1.address.toNat / 256 * 256 + v.toNat) % s1.vramBytes

/-- SETRD and SETWR set all address bits from the second byte's bits 5:0 and latchByte, reduced modulo VRAM_SIZE, set
the mode, and clear `latched` (R93, R94). -/
def Obligations.AddressCommandsSetAddressAndMode : Prop :=
  ∀ (hi : BitVec 6) (e : Nat) (s s1 : State), PassesGate .writeCommand e s s1 →
    (∃ t, exec (.setrd hi e) s = .next t ∧
      t = { s1 with address := t.address, mode := .read, latched := false, portOut := .nothing } ∧
      t.address.toNat = (hi.toNat * 256 + s1.latchByte.toNat) % s1.vramBytes) ∧
    (∃ t, exec (.setwr hi e) s = .next t ∧
      t = { s1 with address := t.address, mode := .write, latched := false, portOut := .nothing } ∧
      t.address.toNat = (hi.toNat * 256 + s1.latchByte.toNat) % s1.vramBytes)

/-- REGW stores latchByte whole in the register of bits 2:0, whatever bits 5:3 are; every other register stays; a 1 in a
must-be-zero bit raises a diagnostic and nothing more (R64, R95; the masks are the spec's decision D3). -/
def Obligations.RegisterWriteStoresTheByteVerbatim : Prop :=
  ∀ (reg ignored : BitVec 3) (e : Nat) (s s1 : State), PassesGate .writeCommand e s s1 →
    ∃ t, exec (.regw reg ignored e) s = .next t ∧
      t = { s1 with
        regs := t.regs
        latched := false
        portOut := .nothing
        diags := s1.diags ++
          (if s1.latchByte &&& ([0xFC, 0x04, 0xF0, 0x00, 0xF8, 0x80, 0xF8, 0x00] : List Byte).getD reg.toNat 0 ≠ 0
            then [.reservedBits reg s1.latchByte] else []) } ∧
      t.regs.get reg = s1.latchByte ∧
      ∀ other, other ≠ reg → t.regs.get other = s1.regs.get other

/-- CMDINV raises its diagnostic and clears `latched`; nothing else changes (R96). -/
def Obligations.InvalidCommandOnlyClearsTheLatch : Prop :=
  ∀ (ignored : BitVec 6) (e : Nat) (s s1 : State), PassesGate .writeCommand e s s1 →
    exec (.cmdinv ignored e) s = .next { s1 with
      latched := false
      portOut := .nothing
      diags := s1.diags ++ [.invalidCommand s1.latchByte (0xC0 ||| ignored.setWidth 8)] }

/-- With POLICY Drop a gated access that comes too soon records its time, raises the diagnostic and does nothing more;
a dropped ReadData hands back the free value DROPPED_READ_VALUE, whatever it is (R166, decision D23; log entry
8). -/
def Obligations.DropPolicySkipsTheAccess : Prop :=
  ∀ (i : Instr) (op : TimedOp) (e : Nat) (v : ValidatorParams) (s : State),
    timedOf i = some (op, e) → TooSoon v op e s → v.policy = .drop →
    exec i s = .next { s with
      timing := { s.timing with last := TimingState.insert s.timing.last (categoryOf v op) e }
      diags := s.diags ++ [.timingViolation (categoryOf v op) (s.accessGap (categoryOf v op) e)
        (s.requiredGap v (categoryOf v op) e)]
      portOut := if op = .readData then .byte (Config.droppedReadValue s.draws) else .nothing
      draws := if op = .readData then s.draws + 1 else s.draws }

/-- With POLICY Abort a gated access that comes too soon ends the run (R166, U24); a decreasing `elapsed` is refused
(U26); that it is measured against the latest recorded time or the epoch is the model's inference (log entry 14). -/
def Obligations.AbortPolicyEndsTheRun : Prop :=
  ∀ (i : Instr) (op : TimedOp) (e : Nat) (v : ValidatorParams) (s : State), timedOf i = some (op, e) →
    (TooSoon v op e s → v.policy = .abort →
      exec i s = .fault (.timingAbort (categoryOf v op) (s.accessGap (categoryOf v op) e)
        (s.requiredGap v (categoryOf v op) e))) ∧
    (s.params.validator = .present v → e < s.timing.latest → exec i s = .refused .elapsedDecreased)

/-- With POLICY Warn a data access that comes too soon raises the violation counter by exactly one and is performed: a
ReadData returns its byte and advances, or turns the mode, and leaves VRAM as it was; a WriteData stores its one byte and
advances (R166, R169; the spec's decisions D23 and D18). -/
def Obligations.WarnPolicyCountsOneViolation : Prop :=
  ∀ (v : ValidatorParams) (e : Nat) (b : Byte) (s : State), s.vramWf = true → v.policy = .warn →
    (TooSoon v .readData e s → ∃ t, exec (.rd e) s = .next t ∧
      violations t.diags = violations s.diags + 1 ∧ t.vram = s.vram ∧ t.mode = .read ∧ t.latched = false ∧
      (s.mode = .read → t.portOut = .byte (s.memRead s.address.toNat) ∧
        t.address.toNat = (s.address.toNat + 1) % s.vramBytes) ∧
      (s.mode = .write → t.portOut = .byte 0xFF ∧ t.address = s.address)) ∧
    (TooSoon v .writeData e s → ∃ t, exec (.wd b e) s = .next t ∧
      violations t.diags = violations s.diags + 1 ∧ t.mode = .write ∧ t.latched = false ∧
      t.address.toNat = (s.address.toNat + 1) % s.vramBytes ∧ t.memRead s.address.toNat = b ∧
      ∀ a, a % s.vramBytes ≠ s.address.toNat % s.vramBytes → t.memRead a = s.memRead a)

/-- IsInterruptPending returns F and IE and changes nothing of the block (R180). -/
def Obligations.InterruptPendingIsFrameFlagAndEnable : Prop :=
  ∀ s : State, exec .intp s = .next { s with portOut := .bool (s.status.getLsbD 7 && s.regs.r1.getLsbD 5) }

/-- ClearInterrupt clears F alone (R181). -/
def Obligations.ClearInterruptClearsOnlyTheFrameFlag : Prop :=
  ∀ s : State, ∃ t, exec .clrint s = .next t ∧
    t = { s with status := t.status, portOut := .nothing } ∧
    statusF t.status = false ∧ statusS5 t.status = statusS5 s.status ∧ statusC t.status = statusC s.status ∧
    statusFSN t.status = statusFSN s.status

/-- Reset puts every state element to its reset value, `mode` to the free value RESET_MODE, and keeps latchByte and
VRAM (R195, R38; all but the status register and the timing state is the spec's decision D19; log entry 2 for the free
value). That a scanline in progress is discarded is the model's choice (log entry 6). -/
def Obligations.ResetClearsAllButLatchByteAndVram : Prop :=
  ∀ s : State, exec .reset s = .next { s with
    status := 0x00
    timing := { last := [], epoch := none }
    latched := false
    regs := ⟨0, 0, 0, 0, 0, 0, 0, 0⟩
    address := 0
    mode := Config.resetMode s.draws
    draws := s.draws + 1
    render := none }

/-- RenderFrame runs to completion from every state with no scanline in progress: 192 rows of 256 codes, F set, the
epoch moved with the validator present (log entry 14); nothing but the surface, the status register and the epoch
changes (R110; F is decision D17). The
codes are those of the 192 scanlines: FrameAgreesWithItsScanlines. -/
def Obligations.FrameWritesTheSurfaceAndSetsF : Prop :=
  ∀ (e : Nat) (s : State), s.render = none →
    ∃ t, exec (.frame e) s = .next t ∧
      t = { s with surface := t.surface, status := t.status, timing := t.timing } ∧
      t.surface.length = 192 ∧ (∀ row ∈ t.surface, row.length = 256) ∧
      statusF t.status = true ∧ t.timing.last = s.timing.last ∧
      (s.params.validator = .absent → t.timing.epoch = s.timing.epoch) ∧
      (∀ v, s.params.validator = .present v → t.timing.epoch = some e)

/-- RenderScanline returns ScanlineRow of the registers as they are and leaves the status register as ScanlineRow does,
with F set after scanline 191; nothing else changes (R111, R117). -/
def Obligations.LineReturnsTheScanlineRow : Prop :=
  ∀ (index : Nat) (s : State), index < 192 → s.render = none →
    let line := scanlineRow s.params.spriteYBias index s.regs s.memRead s.status
    exec (.line index) s = .next { s with
      lineOut := some (index, line.1)
      status := if index = 191 then line.2 ||| 0x80 else line.2 } ∧
    line.1.length = 256

/-- Where the render operations are refused: an index outside 0..191 (R111, D26), or another render operation running
(U30, R212). -/
def Obligations.RenderOperationsAreRefusedOutsideTheirDomain : Prop :=
  ∀ (index e : Nat) (s : State),
    (192 ≤ index → exec (.line index) s = .refused (.scanlineOutOfRange index)) ∧
    (index < 192 → s.render ≠ none → exec (.line index) s = .refused .renderInProgress) ∧
    (s.render ≠ none → exec (.frame e) s = .refused .renderInProgress)

/-- A mode row that dispatches an undisturbed scanline draws its plane, and in the three sprite modes the sprites over
it; the rows of mode Blank draw the backdrop and leave the status register alone (R113, R116, R117). -/
def Obligations.ModeRowsDrawTheirScanline : Prop :=
  ∀ (s : State) (t : LineTask), s.render = some t → t.phase = .dispatch → t.granularity = .whole →
    let sprites := fun row => spriteRow s.params.spriteYBias t.index t.sample s.memRead row s.status
    exec .modeG1 s = .next (drawnAs s t (sprites (graphics1Row t.index t.sample s.memRead))) ∧
    exec .modeG2 s = .next (drawnAs s t (sprites (graphics2Row t.index t.sample s.memRead))) ∧
    exec .modeMc s = .next (drawnAs s t (sprites (multicolorRow t.index t.sample s.memRead))) ∧
    exec .modeTx s = .next (drawnAs s t (textRow t.index t.sample s.memRead, s.status)) ∧
    ∀ i ∈ blankRows, exec i s = .next (drawnAs s t (List.replicate 256 t.sample.backdrop, s.status))

/-- A mode row that dispatches a scanline byte by byte enters its plane with the name byte of cell 0 to read next; the
rows of mode Blank read nothing (R116, R126; the rows as steps of their own are the model's choice, log entry 7). -/
def Obligations.ModeRowsEnterTheirPlane : Prop :=
  ∀ (s : State) (t : LineTask), s.render = some t → t.phase = .dispatch → t.granularity = .byByte →
    exec .modeG1 s = .next { s with render := some { t with phase := .plane .graphicsI 0 [], row := [] } } ∧
    exec .modeG2 s = .next { s with render := some { t with phase := .plane .graphicsII 0 [], row := [] } } ∧
    exec .modeMc s = .next { s with render := some { t with phase := .plane .multicolor 0 [], row := [] } } ∧
    exec .modeTx s = .next { s with
      render := some { t with phase := .plane .text 0 [], row := List.replicate 8 t.sample.backdrop } } ∧
    ∀ i ∈ blankRows, exec i s = .next (drawnAs s t (List.replicate 256 t.sample.backdrop, s.status))

/-- The mode rows exist only on the register sample of a render operation: without a scanline that waits for its
dispatch they are refused (R113; the model's reading of the table's condition, log entry 7). -/
def Obligations.ModeRowsNeedAScanlineAtDispatch : Prop :=
  ∀ (i : Instr) (s : State), i ∈ modeRows → (∀ t, s.render = some t → t.phase ≠ .dispatch) →
    exec i s = .refused .noScanlineAtDispatch

/-- A blank scanline is 256 backdrop codes and changes no sprite flag; F is set after scanline 191 all the same (R116,
R118). -/
def Obligations.BlankScanlineIsTheBackdrop : Prop :=
  ∀ (index : Nat) (s : State), index < 192 → s.render = none → s.regs.modeOf = .blank →
    exec (.line index) s = .next { s with
      lineOut := some (index, List.replicate 256 (s.regs.r7.extractLsb' 0 4))
      status := if index = 191 then s.status ||| 0x80 else s.status }

/-- Every pixel of a Graphics I row, by the addresses of R125 (positions are the spec's decisions D4, D9, D10). -/
def Obligations.Graphics1PixelIsItsCellColour : Prop :=
  ∀ (y c k : Nat) (r : RegFile) (rd : Nat → Byte), c < 32 → k < 8 →
    let name := rd (r.r2.toNat % 16 * 0x400 + y / 8 * 32 + c)
    let pat := rd (r.r4.toNat % 8 * 0x800 + name.toNat * 8 + y % 8)
    let col := rd (r.r3.toNat * 0x40 + name.toNat / 8)
    let code := if pat.getLsbD (7 - k) then col.extractLsb' 4 4 else col.extractLsb' 0 4
    (graphics1Row y r rd).length = 256 ∧
    (graphics1Row y r rd)[c * 8 + k]? = some (if code = 0 then r.r7.extractLsb' 0 4 else code)

/-- Every pixel of a Graphics II row: one colour byte per pattern byte, both from the tables of the scanline's third,
whose offset each of the two select bits lets through or not (R130, R131; decision D10). -/
def Obligations.Graphics2PixelIsItsPatternByteColour : Prop :=
  ∀ (y c k : Nat) (r : RegFile) (rd : Nat → Byte), y < 192 → c < 32 → k < 8 →
    let third := fun (one two : Bool) =>
      if y / 64 = 1 ∧ one = true then 0x0800 else if y / 64 = 2 ∧ two = true then 0x1000 else 0
    let patBase := (if r.r4.getLsbD 2 then 0x2000 else 0) + third (r.r4.getLsbD 0) (r.r4.getLsbD 1)
    let colBase := (if r.r3.getLsbD 7 then 0x2000 else 0) + third (r.r3.getLsbD 5) (r.r3.getLsbD 6)
    let name := rd (r.r2.toNat % 16 * 0x400 + y / 8 * 32 + c)
    let pat := rd (patBase + name.toNat * 8 + y % 8)
    let col := rd (colBase + name.toNat * 8 + y % 8)
    let code := if pat.getLsbD (7 - k) then col.extractLsb' 4 4 else col.extractLsb' 0 4
    (graphics2Row y r rd).length = 256 ∧
    (graphics2Row y r rd)[c * 8 + k]? = some (if code = 0 then r.r7.extractLsb' 0 4 else code)

/-- Every pixel of a Multicolor row: the high nibble in the left block, the low nibble in the right one (R135, R136;
decision D11). -/
def Obligations.MulticolorPixelIsItsBlockColour : Prop :=
  ∀ (y c k : Nat) (r : RegFile) (rd : Nat → Byte), c < 32 → k < 8 →
    let name := rd (r.r2.toNat % 16 * 0x400 + y / 8 * 32 + c)
    let b := rd (r.r4.toNat % 8 * 0x800 + name.toNat * 8 + (y / 8 % 4 * 2 + y % 8 / 4))
    let code := if k < 4 then b.extractLsb' 4 4 else b.extractLsb' 0 4
    (multicolorRow y r rd).length = 256 ∧
    (multicolorRow y r rd)[c * 8 + k]? = some (if code = 0 then r.r7.extractLsb' 0 4 else code)

/-- Every pixel of a Text row: two margins of 8 backdrop columns, and 40 cells of the six high bits of a pattern byte in
the two colours of R[7] (R140 to R142; decisions D7, D12). -/
def Obligations.TextPixelIsForegroundOrBackdrop : Prop :=
  ∀ (y c k : Nat) (r : RegFile) (rd : Nat → Byte), c < 40 → k < 6 →
    let bd := r.r7.extractLsb' 0 4
    let tf := r.r7.extractLsb' 4 4
    let name := rd (r.r2.toNat % 16 * 0x400 + y / 8 * 40 + c)
    let pat := rd (r.r4.toNat % 8 * 0x800 + name.toNat * 8 + y % 8)
    (textRow y r rd).length = 256 ∧
    (textRow y r rd)[8 + c * 6 + k]? = some (if pat.getLsbD (7 - k) ∧ tf ≠ 0 then tf else bd) ∧
    ∀ x, x < 8 → (textRow y r rd)[x]? = some bd ∧ (textRow y r rd)[248 + x]? = some bd

/-- The scanlines that a sprite intersects, in the decided bias of one line: a Y byte above 192 stands for Y - 256
(R148, R149; decision D14). -/
def Obligations.SpriteCoversItsExtentOfScanlines : Prop :=
  ∀ (r : RegFile) (y : Nat) (Y : Byte), y < 192 →
    let extent := (if r.r1.getLsbD 1 then 16 else 8) * (if r.r1.getLsbD 0 then 2 else 1)
    (spriteIntersects 1 r y Y = true ↔
      (Y.toNat ≤ 192 ∧ Y.toNat + 1 ≤ y ∧ y < Y.toNat + 1 + extent) ∨
      (192 < Y.toNat ∧ y + 256 < Y.toNat + 1 + extent))

/-- The sentinel hides every entry behind it: a walk that would go on past an entry with Y = 0xD0 gives what the walk of
the entries before it gives (R146). -/
def Obligations.SentinelHidesLaterEntries : Prop :=
  ∀ (bias : Int) (y : Nat) (r : RegFile) (rd : Nat → Byte) (before after : List Nat) (n count : Nat) (cv : Canvas),
    rd (r.attributeAddress n 0) = 0xD0 →
    spriteWalk bias y r rd (before ++ n :: after) count cv = spriteWalk bias y r rd before count cv

/-- The fifth sprite: when five or more entries intersect the scanline and S5 is 0, S5 is set and FSN is the index of
the fifth; in every other case neither field changes; F never does (R150). -/
def Obligations.FifthSpriteIsRecordedOnce : Prop :=
  ∀ (bias : Int) (y : Nat) (r : RegFile) (rd : Nat → Byte) (row : Row) (st : Byte),
    let on := spritesOn bias y r rd
    let st' := (spriteRow bias y r rd row st).2
    (5 ≤ on.length → statusS5 st = false →
      statusS5 st' = true ∧ statusFSN st' = BitVec.ofNat 5 (on.getD 4 0)) ∧
    (on.length < 5 ∨ statusS5 st = true → statusS5 st' = statusS5 st ∧ statusFSN st' = statusFSN st) ∧
    statusF st' = statusF st

/-- Coincidence: C is set by a scanline exactly when two of its first four intersecting sprites have an opaque pixel in
one column of 0..255; it is never cleared (R153). -/
def Obligations.CoincidenceIsTwoOpaquePixelsInOneColumn : Prop :=
  ∀ (bias : Int) (y : Nat) (r : RegFile) (rd : Nat → Byte) (row : Row) (st : Byte),
    let drawn := (spritesOn bias y r rd).take 4
    (statusC (spriteRow bias y r rd row st).2 = true ↔
      statusC st = true ∨ ∃ j k dx, j < k ∧ k < drawn.length ∧
        dx ∈ opaqueColumns bias y r rd (drawn.getD j 0) ∧ dx ∈ opaqueColumns bias y r rd (drawn.getD k 0))

/-- Priority: every column shows the lowest-numbered of the first four intersecting sprites that has an opaque pixel
there, and the plane where none has (R145, R153, R154). -/
def Obligations.LowestNumberedSpriteIsOnTop : Prop :=
  ∀ (bias : Int) (y : Nat) (r : RegFile) (rd : Nat → Byte) (row : Row) (st : Byte) (dx : Nat),
    row.length = 256 → dx < 256 →
    let drawn := (spritesOn bias y r rd).take 4
    (spriteRow bias y r rd row st).1[dx]? =
      match drawn.find? (fun n => decide (dx ∈ opaqueColumns bias y r rd n)) with
      | some n => some (entryColour r rd n)
      | none => row[dx]?

/-- F is set at the end of RenderFrame and of RenderScanline(191), in every mode and whatever IE is, and by no other
scanline (R118, the spec's decision D17). -/
def Obligations.FrameFlagIsSetByTheLastScanline : Prop :=
  (∀ (e : Nat) (s t : State), exec (.frame e) s = .next t → statusF t.status = true) ∧
  (∀ s t : State, exec (.line 191) s = .next t → statusF t.status = true) ∧
  (∀ (index : Nat) (s t : State), index < 191 → exec (.line index) s = .next t →
    statusF t.status = statusF s.status)

/-- The invariant is kept by every step, from every state that has it. -/
def Obligations.EveryStepKeepsTheInvariant : Prop :=
  ∀ s t : State, Inv s → step s = .next t → Inv t

/-- The state after reset has the invariant, and assumes nothing of VRAM and of `mode` (R196): every byte of VRAM is the free
value VRAM_INIT and `mode` is the free value RESET_MODE (R38, decision D19; that they stand as free values is log entries 1
and 4; the zeros of the registers and of `address` are log entry 20). -/
def Obligations.ResetStateHasTheInvariant : Prop :=
  Inv State.reset ∧ (∀ a, State.reset.memRead a = Config.vramInit (a % 16384)) ∧
    ∃ k, State.reset.mode = Config.resetMode k

/-- The clearing rule of the status register, over all steps: ReadStatus and Reset clear all four fields, ClearInterrupt
clears F alone, and every other step clears no flag and changes FSN only where it sets S5 (R21). -/
def Obligations.StatusFieldsAreClearedTogether : Prop :=
  ∀ (s t : State) (ev : Event) (rest : List Event), s.trace = ev :: rest → step s = .next t →
    (ev = .op .commandRead ∨ ev = .op .reset → t.status = 0x00) ∧
    (ev = .op .clearInterrupt → statusF t.status = false ∧ statusS5 t.status = statusS5 s.status ∧
      statusC t.status = statusC s.status ∧ statusFSN t.status = statusFSN s.status) ∧
    (ev ∉ [.op .commandRead, .op .reset, .op .clearInterrupt] →
      (statusF s.status = true → statusF t.status = true) ∧
      (statusS5 s.status = true → statusS5 t.status = true) ∧
      (statusC s.status = true → statusC t.status = true) ∧
      (statusFSN t.status ≠ statusFSN s.status → statusS5 s.status = false ∧ statusS5 t.status = true))

/-- A register changes only by the register-write command and by Reset (R10, R195). -/
def Obligations.RegistersChangeOnlyByRegisterWriteOrReset : Prop :=
  ∀ s t : State, step s = .next t → t.regs ≠ s.regs →
    ∃ rest, s.trace = .op .reset :: rest ∨
      ∃ v e, s.trace = .op (.commandWrite v e) :: rest ∧ s.latched = true ∧ v &&& 0xC0 = 0x80

/-- VRAM changes only by WriteData: the render agent reads it and never writes it, and no command and no reset touches
it (R26, R91, R195). -/
def Obligations.VramChangesOnlyByWriteData : Prop :=
  ∀ s t : State, step s = .next t → t.vram ≠ s.vram → ∃ v e rest, s.trace = .op (.dataWrite v e) :: rest

/-- The render agent, IsInterruptPending and ClearInterrupt leave the access state, the registers and VRAM alone (R42,
R100). -/
def Obligations.RenderingLeavesThePortSideAlone : Prop :=
  ∀ (s t : State) (ev : Event) (rest : List Event), s.trace = ev :: rest → ev.leavesAccessState = true →
    step s = .next t →
    t.address = s.address ∧ t.mode = s.mode ∧ t.latched = s.latched ∧ t.latchByte = s.latchByte ∧
    t.regs = s.regs ∧ t.vram = s.vram

/-- What the render agent produces does not depend on the access state: "a renderer forms its own addresses from the
registers and never reads or writes `address`" (R22). -/
def Obligations.RenderingDoesNotDependOnTheAccessState : Prop :=
  ∀ (s t : State) (ev : Event) (rest : List Event) (a : VAddr) (m : RwMode) (l : Bool) (b : Byte),
    s.trace = ev :: rest → ev.leavesAccessState = true → step s = .next t →
    step { s with address := a, mode := m, latched := l, latchByte := b } =
      .next { t with address := a, mode := m, latched := l, latchByte := b }

/-- Every two-byte command, whatever its class, leaves the low byte of `address` equal to its first byte (R99). -/
def Obligations.TwoByteCommandLeavesItsFirstByteInAddress : Prop :=
  ∀ (v w : Byte) (e e' : Nat) (s t u : State) (i : Instr), s.params.validator = .absent →
    exec (.wc1 v e) s = .next t → decode (.access t.latched (.commandWrite w e')) = .ok i → exec i t = .next u →
    u.address.toNat % 256 = v.toNat ∧ u.latched = false

/-- A data access or a status read between the two bytes of a command cancels it: the next command byte is a first byte,
and the low byte of `address` that the first one left is not restored by a ReadStatus (R66). -/
def Obligations.AccessBetweenTheBytesCancelsTheCommand : Prop :=
  ∀ (v w : Byte) (e e' : Nat) (s t : State) (i : Instr), s.params.validator = .absent →
    i ∈ [Instr.wd v e, .rd e, .rs] → exec i s = .next t →
    decode (.access t.latched (.commandWrite w e')) = .ok (.wc1 w e') ∧ (i = .rs → t.address = s.address)

/-- No step changes a parameter of the run (R212). -/
def Obligations.ParametersNeverChange : Prop :=
  ∀ s t : State, step s = .next t → t.params = s.params

/-- Diagnostics are only appended, and one operation raises at most two: a TimingViolation and then one other (R175,
R183). -/
def Obligations.OneOperationRaisesAtMostTwoDiagnostics : Prop :=
  ∀ s t : State, step s = .next t → ∃ ds, t.diags = s.diags ++ ds ∧ ds.length ≤ 2 ∧
    (ds.length = 2 → ∃ c g q d, ds = [.timingViolation c g q, d] ∧ ∀ c' g' q', d ≠ .timingViolation c' g' q')

/-- An interrupt request falls only by ReadStatus, ClearInterrupt, Reset, or a register write to R[1] (R182). -/
def Obligations.InterruptRequestFallsOnlyByClearingFOrIE : Prop :=
  ∀ s t : State, step s = .next t → s.interruptPending = true → t.interruptPending = false →
    ∃ rest, s.trace = .op .commandRead :: rest ∨ s.trace = .op .clearInterrupt :: rest ∨
      s.trace = .op .reset :: rest ∨
      ∃ v e, s.trace = .op (.commandWrite v e) :: rest ∧ s.latched = true ∧ v &&& 0xC7 = 0x81

/-- Without the validator every operation of R9 completes from every state: port operations and Reset always, render
operations with an index inside 0..191 and no other render operation running (R177; for the mode rows see
ModeRowsNeedAScanlineAtDispatch). -/
def Obligations.NoOperationFaultsHangsOrIsRefused : Prop :=
  ∀ (i : Instr) (s : State), i.wf = true → i ∉ modeRows → s.params.validator = .absent →
    (s.render = none ∨ ((∀ e, i ≠ .frame e) ∧ ∀ y, i ≠ .line y)) → ∃ t, exec i s = .next t

/-- RenderFrame agrees with RenderScanline(0), ..., RenderScanline(191) in this order, with any number of
IsInterruptPending before each: the same 192 rows and the same final status register (R119). -/
def Obligations.FrameAgreesWithItsScanlines : Prop :=
  ∀ (e : Nat) (s : State) (polls : Nat → Nat), s.render = none →
    let lines := fun n => (List.range n).flatMap fun y =>
      List.replicate (polls y) (Event.op .isInterruptPending) ++ [.op (.renderScanline y)]
    ∃ t, exec (.frame e) s = .next t ∧
      ∀ y, y < 192 → ∃ u, core.run (lines (y + 1)).length { s with trace := lines (y + 1) } = .next u ∧
        u.lineOut = some (y, t.surface.getD y []) ∧ (y = 191 → u.status = t.status)

/-- The real-time scanline refines RenderScanline: rendered one byte read or one pixel a step, with no port operation in
between, it ends in exactly the state that LINE gives (R52, R111; the step size is the spec's decision D21 and log entry
12). What a disturbed scanline reads, and in which order, is LineStartTakesTheRegisterSample, PlaneStepReadsItsNextByte,
SpriteStepReadsItsNextByte and RenderReadSeesTheLatestWrite. -/
def Obligations.ByteByByteScanlineAgreesWithLine : Prop :=
  ∀ (index : Nat) (s t : State), exec (.line index) s = .next t →
    ∃ n, core.run (n + 1) { s with trace := .lineStart index .byByte :: List.replicate n .renderNext } =
      .next { t with trace := [] }

/-- A scanline started in the real-time deployment and run undisturbed, that is sample, mode row and return, is LINE
(R111, R113, R117). -/
def Obligations.UndisturbedScanlineIsLine : Prop :=
  ∀ (index : Nat) (s t : State), exec (.line index) s = .next t →
    core.run 3 { s with trace := [.lineStart index .whole, .renderNext, .renderNext] } = .next { t with trace := [] }

/-- The device columns of a sprite's pixels, left to right without repetition: source pixel i of size, doubled by the
scale, from X, or X - 32 with the early clock, inside 0..255; the source line is one byte, or left byte and right byte,
bit 7 of each leftmost (R147, R151, R154, R155). The opaque columns of entry n are those of its own bytes: X, name and
attribute at R[5] mod 128 * 0x80 + 4n, the pattern at R[6] mod 8 * 0x800 + 8 name, with the name rounded down to a multiple
of 4 and the right half 16 bytes on in double size, and none for colour 0 (R16, R17, R74, R75, R152; decisions D4, D13,
D15). -/
def Obligations.OpaqueColumnsAreTheSourcePixels : Prop :=
  ∀ (bias : Int) (y n : Nat) (r : RegFile) (rd : Nat → Byte),
    let size : Nat := if r.r1.getLsbD 1 then 16 else 8
    let scale : Nat := if r.r1.getLsbD 0 then 2 else 1
    (∀ (X attr left right : Byte),
      let x0 : Int := (X.toNat : Int) - (if attr.getLsbD 7 then 32 else 0)
      let pixel := fun i => if size = 8 then left.getLsbD (7 - i) else
        if i < 8 then left.getLsbD (7 - i) else right.getLsbD (15 - i)
      (spriteDeviceColumns r X attr left right).Pairwise (· < ·) ∧
      ∀ dx : Nat, dx ∈ spriteDeviceColumns r X attr left right ↔
        dx ≤ 255 ∧ ∃ i k : Nat, i < size ∧ k < scale ∧ pixel i = true ∧ (dx : Int) = x0 + ((i * scale + k : Nat) : Int)) ∧
    let entry := r.r5.toNat % 128 * 0x80 + 4 * n
    let Y := rd entry
    let name := (rd (entry + 2)).toNat
    let attr := rd (entry + 3)
    let top : Int := (if 192 < Y.toNat then (Y.toNat : Int) - 256 else (Y.toNat : Int)) + bias
    let line : Nat := ((y : Int) - top).toNat / scale
    let pattern : Nat := r.r6.toNat % 8 * 0x800 + (if size = 16 then name / 4 * 4 else name) * 8
    (attr.extractLsb' 0 4 = 0 → opaqueColumns bias y r rd n = []) ∧
    (attr.extractLsb' 0 4 ≠ 0 → opaqueColumns bias y r rd n =
      spriteDeviceColumns r (rd (entry + 1)) attr (rd (pattern + line)) (rd (pattern + 16 + line))) ∧
    entryColour r rd n = attr.extractLsb' 0 4

/-- The sprites on a scanline, in index order: entries 0..31 whose Y byte covers it, with no sentinel at or before them
(R74, R145, R146, R148, R149; decisions D13, D14). -/
def Obligations.SpritesOnAScanlineByTheirYBytes : Prop :=
  ∀ (bias : Int) (y : Nat) (r : RegFile) (rd : Nat → Byte),
    let Y := fun n => (rd (r.r5.toNat % 128 * 0x80 + 4 * n)).toNat
    let top : Nat → Int := fun n => (if 192 < Y n then (Y n : Int) - 256 else (Y n : Int)) + bias
    let extent : Nat := (if r.r1.getLsbD 1 then 16 else 8) * (if r.r1.getLsbD 0 then 2 else 1)
    (spritesOn bias y r rd).Pairwise (· < ·) ∧
    ∀ n, n ∈ spritesOn bias y r rd ↔
      n < 32 ∧ (∀ m, m ≤ n → Y m ≠ 0xD0) ∧ top n ≤ (y : Int) ∧ (y : Int) < top n + (extent : Int)

/-- last[category] <- elapsed (R166, decision D23): with the validator present, a gated operation that answers a next
state, performed or dropped, has recorded its time under its category and under no other; and the gap of a later access is
measured from the recorded time. That every operation that is not timed but RESET, so FRAME too, leaves the recorded times
alone is the model's inference (log entry 14: R168 lets a frame redrawn event rewind the timing state). Times are unbounded
naturals by the model's choice (log entry 24). -/
def Obligations.RecordedTimeIsThatOfTheLatestAccess : Prop :=
  (∀ (v : ValidatorParams) (i : Instr) (s t : State), s.params.validator = .present v → exec i s = .next t →
    (∀ op e, timedOf i = some (op, e) →
      t.timing.last.lookup (categoryOf v op) = some e ∧
      (∀ c, c ≠ categoryOf v op → t.timing.last.lookup c = s.timing.last.lookup c) ∧
      t.timing.epoch = s.timing.epoch) ∧
    (timedOf i = none → i ≠ .reset → t.timing.last = s.timing.last)) ∧
  ∀ (s : State) (c e u : Nat), s.timing.last.lookup c = some u → s.accessGap c e = e - u

/-- One step in a plane reads one byte of VRAM as it is at that step: the name, then the pattern byte, then in the Graphics
modes the colour byte; after the last byte of a cell its pixels are placed and the next cell, or what follows the plane,
comes next (R52, R126, R132, R137, R143, decision D21; the step is log entry 12). -/
def Obligations.PlaneStepReadsItsNextByte : Prop :=
  ∀ (s : State) (t : LineTask) (rest : List Event) (m : DisplayMode) (c : Nat) (got : List Byte),
    s.trace = .renderNext :: rest → s.render = some t → t.phase = .plane m c got → t.index < 192 →
    let y := t.index
    let r := t.sample
    let bd := r.r7.extractLsb' 0 4
    let resolve := fun (code : Colour) => if code = 0 then bd else code
    let third := fun (one two : Bool) =>
      if y / 64 = 1 ∧ one = true then 0x0800 else if y / 64 = 2 ∧ two = true then 0x1000 else 0
    let patBase := (if r.r4.getLsbD 2 then 0x2000 else 0) + third (r.r4.getLsbD 0) (r.r4.getLsbD 1)
    let colBase := (if r.r3.getLsbD 7 then 0x2000 else 0) + third (r.r3.getLsbD 5) (r.r3.getLsbD 6)
    let names := r.r2.toNat % 16 * 0x400
    let patterns := r.r4.toNat % 8 * 0x800
    let goesOnAs := fun (t' : LineTask) => step s = .next { s with trace := rest, render := some t' }
    let reads := fun (a : Nat) => goesOnAs { t with phase := .plane m c (got ++ [s.memRead a]) }
    let places := fun (cells : Nat) (pixel : Nat → Colour) =>
      let row := t.row ++ (List.range (if m = .text then 6 else 8)).map pixel
      if c + 1 < cells then goesOnAs { t with phase := .plane m (c + 1) [], row := row }
      else if m = .text then goesOnAs { t with phase := .drawn, row := row ++ List.replicate 8 bd }
      else goesOnAs { t with phase := .sprite 0 0 (List.replicate 256 false) [], row := row }
    (m = .graphicsI →
      (got = [] → reads (names + y / 8 * 32 + c)) ∧
      (∀ name, got = [name] → reads (patterns + name.toNat * 8 + y % 8)) ∧
      (∀ name pat, got = [name, pat] →
        let col := s.memRead (r.r3.toNat * 0x40 + name.toNat / 8)
        places 32 fun k => resolve (if pat.getLsbD (7 - k) then col.extractLsb' 4 4 else col.extractLsb' 0 4))) ∧
    (m = .graphicsII →
      (got = [] → reads (names + y / 8 * 32 + c)) ∧
      (∀ name, got = [name] → reads (patBase + name.toNat * 8 + y % 8)) ∧
      (∀ name pat, got = [name, pat] →
        let col := s.memRead (colBase + name.toNat * 8 + y % 8)
        places 32 fun k => resolve (if pat.getLsbD (7 - k) then col.extractLsb' 4 4 else col.extractLsb' 0 4))) ∧
    (m = .multicolor →
      (got = [] → reads (names + y / 8 * 32 + c)) ∧
      (∀ name, got = [name] →
        let b := s.memRead (patterns + name.toNat * 8 + (y / 8 % 4 * 2 + y % 8 / 4))
        places 32 fun k => resolve (if k < 4 then b.extractLsb' 4 4 else b.extractLsb' 0 4))) ∧
    (m = .text →
      (got = [] → reads (names + y / 8 * 40 + c)) ∧
      (∀ name, got = [name] →
        let pat := s.memRead (patterns + name.toNat * 8 + y % 8)
        places 40 fun k => if pat.getLsbD (7 - k) then resolve (r.r7.extractLsb' 4 4) else bd))

/-- One step in the sprite walk reads one byte of VRAM as it is at that step: Y, and only for one of the first four
intersecting entries X, name, attribute, then one or two pattern bytes; and one step of the overlay writes one pixel, or
sets C where a lower-numbered sprite has written (R52, R54, R146, R149 to R153, R157; decisions D21 and D22; the steps are
log entry 12). -/
def Obligations.SpriteStepReadsItsNextByte : Prop :=
  ∀ (s : State) (t : LineTask) (rest : List Event) (n count : Nat) (occupied : List Bool),
    s.trace = .renderNext :: rest → s.render = some t →
    let r := t.sample
    let entry := r.r5.toNat % 128 * 0x80 + 4 * n
    let size : Nat := if r.r1.getLsbD 1 then 16 else 8
    let scale : Nat := if r.r1.getLsbD 0 then 2 else 1
    let top := fun (Y : Byte) =>
      (if 192 < Y.toNat then (Y.toNat : Int) - 256 else (Y.toNat : Int)) + s.params.spriteYBias
    let pattern := fun (name : Byte) =>
      r.r6.toNat % 8 * 0x800 + (if size = 16 then name.toNat / 4 * 4 else name.toNat) * 8
    let line := fun (Y : Byte) => ((t.index : Int) - top Y).toNat / scale
    let next := fun (occ : List Bool) => if n + 1 < 32 then LinePhase.sprite (n + 1) count occ [] else .drawn
    let draws := fun (occ : List Bool) (colour : Colour) (columns : List Nat) =>
      if columns = [] then next occ else LinePhase.overlay n count occ colour columns
    let goesOnAs := fun (t' : LineTask) (st : Byte) =>
      step s = .next { s with trace := rest, render := some t', status := st }
    let enters := fun (p : LinePhase) => goesOnAs { t with phase := p } s.status
    (t.phase = .sprite n count occupied [] →
      let Y := s.memRead entry
      if Y = 0xD0 then enters .drawn
      else if ¬ (top Y ≤ (t.index : Int) ∧ (t.index : Int) < top Y + ((size * scale : Nat) : Int)) then
        enters (next occupied)
      else if count = 4 then
        goesOnAs { t with phase := .drawn }
          (if s.status.getLsbD 6 then s.status else (s.status &&& 0xA0) ||| 0x40 ||| BitVec.ofNat 8 (n % 32))
      else enters (.sprite n (count + 1) occupied [Y])) ∧
    (∀ Y, t.phase = .sprite n count occupied [Y] →
      enters (.sprite n count occupied [Y, s.memRead (entry + 1)])) ∧
    (∀ Y X, t.phase = .sprite n count occupied [Y, X] →
      enters (.sprite n count occupied [Y, X, s.memRead (entry + 2)])) ∧
    (∀ Y X name, t.phase = .sprite n count occupied [Y, X, name] →
      let attr := s.memRead (entry + 3)
      if attr.extractLsb' 0 4 = 0 then enters (next occupied)
      else enters (.sprite n count occupied [Y, X, name, attr])) ∧
    (∀ Y X name attr, t.phase = .sprite n count occupied [Y, X, name, attr] →
      let left := s.memRead (pattern name + line Y)
      if size = 16 then enters (.sprite n count occupied [Y, X, name, attr, left])
      else enters (draws occupied (attr.extractLsb' 0 4) (spriteDeviceColumns r X attr left 0))) ∧
    (∀ Y X name attr left, t.phase = .sprite n count occupied [Y, X, name, attr, left] →
      let right := s.memRead (pattern name + 16 + line Y)
      enters (draws occupied (attr.extractLsb' 0 4) (spriteDeviceColumns r X attr left right))) ∧
    (∀ colour dx columns, t.phase = .overlay n count occupied colour (dx :: columns) →
      if occupied.getD dx false then
        goesOnAs { t with phase := draws occupied colour columns } (s.status ||| 0x20)
      else
        goesOnAs { t with phase := draws (occupied.set dx true) colour columns, row := t.row.set dx colour } s.status)

/-- A port write just before the read of a name byte, or of a register into the sample, is seen by that read: a name byte
read after a WriteData is the byte written where the addresses agree, and VRAM's byte elsewhere; a register read into the
sample after a register write is the byte written where the numbers agree (R51, R52, R55, decision D21). That the sample is
read one register a step, R[n] and then R[n + 1], so that a write can land inside it, is the model's inference (log entry
11), and the step itself is log entry 12. Of pattern, colour and sprite bytes nothing is said here: PlaneStepReadsItsNextByte
and SpriteStepReadsItsNextByte say that each is read from VRAM as it is at its step, WriteDataStoresTheByteAndAdvances what a
write leaves there. -/
def Obligations.RenderReadSeesTheLatestWrite : Prop :=
  ∀ (s : State) (t : LineTask) (rest : List Event) (v : Byte) (e : Nat), s.render = some t →
    s.params.validator = .absent →
    (∀ m c, s.vramWf = true → t.phase = .plane m c [] → m ≠ .blank →
      let a := t.sample.r2.toNat % 16 * 0x400 + t.index / 8 * (if m = .text then 40 else 32) + c
      let b := if a % s.vramBytes = s.address.toNat % s.vramBytes then v else s.memRead a
      ∃ u, core.run 2 { s with trace := .op (.dataWrite v e) :: .renderNext :: rest } = .next u ∧
        u.render = some { t with phase := .plane m c [b] }) ∧
    (∀ n, t.phase = .sampling n → n < 8 → s.latched = true → v &&& 0xC0 = 0x80 →
      ∃ u q, core.run 2 { s with trace := .op (.commandWrite v e) :: .renderNext :: rest } = .next u ∧
        u.render = some { t with sample := q, phase := if n = 7 then .dispatch else .sampling (n + 1) } ∧
        q.get (BitVec.ofNat 3 n) = (if v.toNat % 8 = n then s.latchByte else s.regs.get (BitVec.ofNat 3 n)) ∧
        ∀ other, other ≠ BitVec.ofNat 3 n → q.get other = t.sample.get other)
end

