-- ==== Sys2Proof/Laws/State.lean ====
section
/-! SUPPORT. For every update of the state one lemma per field, each true by definition, so that no proof unfolds an
update; and what each update does to reads of VRAM. -/

namespace Sys2Proof.Machine

variable (s : State)

@[simp] theorem State.memWrite_regs (a : Nat) (v : Byte) : (s.memWrite a v).regs = s.regs := rfl
@[simp] theorem State.memWrite_status (a : Nat) (v : Byte) : (s.memWrite a v).status = s.status := rfl
@[simp] theorem State.memWrite_address (a : Nat) (v : Byte) : (s.memWrite a v).address = s.address := rfl
@[simp] theorem State.memWrite_mode (a : Nat) (v : Byte) : (s.memWrite a v).mode = s.mode := rfl
@[simp] theorem State.memWrite_latched (a : Nat) (v : Byte) : (s.memWrite a v).latched = s.latched := rfl
@[simp] theorem State.memWrite_latchByte (a : Nat) (v : Byte) : (s.memWrite a v).latchByte = s.latchByte := rfl
@[simp] theorem State.memWrite_vram (a : Nat) (v : Byte) : (s.memWrite a v).vram = Memory.write s.params.vramInit s.vram (a % s.vramBytes) v := rfl
@[simp] theorem State.memWrite_timing (a : Nat) (v : Byte) : (s.memWrite a v).timing = s.timing := rfl
@[simp] theorem State.memWrite_render (a : Nat) (v : Byte) : (s.memWrite a v).render = s.render := rfl
@[simp] theorem State.memWrite_portOut (a : Nat) (v : Byte) : (s.memWrite a v).portOut = s.portOut := rfl
@[simp] theorem State.memWrite_lineOut (a : Nat) (v : Byte) : (s.memWrite a v).lineOut = s.lineOut := rfl
@[simp] theorem State.memWrite_surface (a : Nat) (v : Byte) : (s.memWrite a v).surface = s.surface := rfl
@[simp] theorem State.memWrite_diags (a : Nat) (v : Byte) : (s.memWrite a v).diags = s.diags := rfl
@[simp] theorem State.memWrite_draws (a : Nat) (v : Byte) : (s.memWrite a v).draws = s.draws := rfl
@[simp] theorem State.memWrite_params (a : Nat) (v : Byte) : (s.memWrite a v).params = s.params := rfl
@[simp] theorem State.memWrite_trace (a : Nat) (v : Byte) : (s.memWrite a v).trace = s.trace := rfl
@[simp] theorem State.memWrite_vramBytes (a : Nat) (v : Byte) : (s.memWrite a v).vramBytes = s.vramBytes := rfl

@[simp] theorem State.setAddress_regs (v : Nat) : (s.setAddress v).regs = s.regs := rfl
@[simp] theorem State.setAddress_status (v : Nat) : (s.setAddress v).status = s.status := rfl
@[simp] theorem State.setAddress_address (v : Nat) : (s.setAddress v).address = BitVec.ofNat 14 (v % s.vramBytes) := rfl
@[simp] theorem State.setAddress_mode (v : Nat) : (s.setAddress v).mode = s.mode := rfl
@[simp] theorem State.setAddress_latched (v : Nat) : (s.setAddress v).latched = s.latched := rfl
@[simp] theorem State.setAddress_latchByte (v : Nat) : (s.setAddress v).latchByte = s.latchByte := rfl
@[simp] theorem State.setAddress_vram (v : Nat) : (s.setAddress v).vram = s.vram := rfl
@[simp] theorem State.setAddress_timing (v : Nat) : (s.setAddress v).timing = s.timing := rfl
@[simp] theorem State.setAddress_render (v : Nat) : (s.setAddress v).render = s.render := rfl
@[simp] theorem State.setAddress_portOut (v : Nat) : (s.setAddress v).portOut = s.portOut := rfl
@[simp] theorem State.setAddress_lineOut (v : Nat) : (s.setAddress v).lineOut = s.lineOut := rfl
@[simp] theorem State.setAddress_surface (v : Nat) : (s.setAddress v).surface = s.surface := rfl
@[simp] theorem State.setAddress_diags (v : Nat) : (s.setAddress v).diags = s.diags := rfl
@[simp] theorem State.setAddress_draws (v : Nat) : (s.setAddress v).draws = s.draws := rfl
@[simp] theorem State.setAddress_params (v : Nat) : (s.setAddress v).params = s.params := rfl
@[simp] theorem State.setAddress_trace (v : Nat) : (s.setAddress v).trace = s.trace := rfl
@[simp] theorem State.setAddress_vramBytes (v : Nat) : (s.setAddress v).vramBytes = s.vramBytes := rfl
@[simp] theorem State.setAddress_memRead (v : Nat) (x : Nat) : (s.setAddress v).memRead x = s.memRead x := rfl

@[simp] theorem State.advanceAddress_regs : (s.advanceAddress).regs = s.regs := rfl
@[simp] theorem State.advanceAddress_status : (s.advanceAddress).status = s.status := rfl
@[simp] theorem State.advanceAddress_address : (s.advanceAddress).address = BitVec.ofNat 14 ((s.address.toNat + 1) % s.vramBytes) := rfl
@[simp] theorem State.advanceAddress_mode : (s.advanceAddress).mode = s.mode := rfl
@[simp] theorem State.advanceAddress_latched : (s.advanceAddress).latched = s.latched := rfl
@[simp] theorem State.advanceAddress_latchByte : (s.advanceAddress).latchByte = s.latchByte := rfl
@[simp] theorem State.advanceAddress_vram : (s.advanceAddress).vram = s.vram := rfl
@[simp] theorem State.advanceAddress_timing : (s.advanceAddress).timing = s.timing := rfl
@[simp] theorem State.advanceAddress_render : (s.advanceAddress).render = s.render := rfl
@[simp] theorem State.advanceAddress_portOut : (s.advanceAddress).portOut = s.portOut := rfl
@[simp] theorem State.advanceAddress_lineOut : (s.advanceAddress).lineOut = s.lineOut := rfl
@[simp] theorem State.advanceAddress_surface : (s.advanceAddress).surface = s.surface := rfl
@[simp] theorem State.advanceAddress_diags : (s.advanceAddress).diags = s.diags := rfl
@[simp] theorem State.advanceAddress_draws : (s.advanceAddress).draws = s.draws := rfl
@[simp] theorem State.advanceAddress_params : (s.advanceAddress).params = s.params := rfl
@[simp] theorem State.advanceAddress_trace : (s.advanceAddress).trace = s.trace := rfl
@[simp] theorem State.advanceAddress_vramBytes : (s.advanceAddress).vramBytes = s.vramBytes := rfl
@[simp] theorem State.advanceAddress_memRead (x : Nat) : (s.advanceAddress).memRead x = s.memRead x := rfl

@[simp] theorem State.setMode_regs (m : RwMode) : (s.setMode m).regs = s.regs := rfl
@[simp] theorem State.setMode_status (m : RwMode) : (s.setMode m).status = s.status := rfl
@[simp] theorem State.setMode_address (m : RwMode) : (s.setMode m).address = s.address := rfl
@[simp] theorem State.setMode_mode (m : RwMode) : (s.setMode m).mode = m := rfl
@[simp] theorem State.setMode_latched (m : RwMode) : (s.setMode m).latched = s.latched := rfl
@[simp] theorem State.setMode_latchByte (m : RwMode) : (s.setMode m).latchByte = s.latchByte := rfl
@[simp] theorem State.setMode_vram (m : RwMode) : (s.setMode m).vram = s.vram := rfl
@[simp] theorem State.setMode_timing (m : RwMode) : (s.setMode m).timing = s.timing := rfl
@[simp] theorem State.setMode_render (m : RwMode) : (s.setMode m).render = s.render := rfl
@[simp] theorem State.setMode_portOut (m : RwMode) : (s.setMode m).portOut = s.portOut := rfl
@[simp] theorem State.setMode_lineOut (m : RwMode) : (s.setMode m).lineOut = s.lineOut := rfl
@[simp] theorem State.setMode_surface (m : RwMode) : (s.setMode m).surface = s.surface := rfl
@[simp] theorem State.setMode_diags (m : RwMode) : (s.setMode m).diags = s.diags := rfl
@[simp] theorem State.setMode_draws (m : RwMode) : (s.setMode m).draws = s.draws := rfl
@[simp] theorem State.setMode_params (m : RwMode) : (s.setMode m).params = s.params := rfl
@[simp] theorem State.setMode_trace (m : RwMode) : (s.setMode m).trace = s.trace := rfl
@[simp] theorem State.setMode_vramBytes (m : RwMode) : (s.setMode m).vramBytes = s.vramBytes := rfl
@[simp] theorem State.setMode_memRead (m : RwMode) (x : Nat) : (s.setMode m).memRead x = s.memRead x := rfl

@[simp] theorem State.setLatched_regs (b : Bool) : (s.setLatched b).regs = s.regs := rfl
@[simp] theorem State.setLatched_status (b : Bool) : (s.setLatched b).status = s.status := rfl
@[simp] theorem State.setLatched_address (b : Bool) : (s.setLatched b).address = s.address := rfl
@[simp] theorem State.setLatched_mode (b : Bool) : (s.setLatched b).mode = s.mode := rfl
@[simp] theorem State.setLatched_latched (b : Bool) : (s.setLatched b).latched = b := rfl
@[simp] theorem State.setLatched_latchByte (b : Bool) : (s.setLatched b).latchByte = s.latchByte := rfl
@[simp] theorem State.setLatched_vram (b : Bool) : (s.setLatched b).vram = s.vram := rfl
@[simp] theorem State.setLatched_timing (b : Bool) : (s.setLatched b).timing = s.timing := rfl
@[simp] theorem State.setLatched_render (b : Bool) : (s.setLatched b).render = s.render := rfl
@[simp] theorem State.setLatched_portOut (b : Bool) : (s.setLatched b).portOut = s.portOut := rfl
@[simp] theorem State.setLatched_lineOut (b : Bool) : (s.setLatched b).lineOut = s.lineOut := rfl
@[simp] theorem State.setLatched_surface (b : Bool) : (s.setLatched b).surface = s.surface := rfl
@[simp] theorem State.setLatched_diags (b : Bool) : (s.setLatched b).diags = s.diags := rfl
@[simp] theorem State.setLatched_draws (b : Bool) : (s.setLatched b).draws = s.draws := rfl
@[simp] theorem State.setLatched_params (b : Bool) : (s.setLatched b).params = s.params := rfl
@[simp] theorem State.setLatched_trace (b : Bool) : (s.setLatched b).trace = s.trace := rfl
@[simp] theorem State.setLatched_vramBytes (b : Bool) : (s.setLatched b).vramBytes = s.vramBytes := rfl
@[simp] theorem State.setLatched_memRead (b : Bool) (x : Nat) : (s.setLatched b).memRead x = s.memRead x := rfl

@[simp] theorem State.setLatchByte_regs (b : Byte) : (s.setLatchByte b).regs = s.regs := rfl
@[simp] theorem State.setLatchByte_status (b : Byte) : (s.setLatchByte b).status = s.status := rfl
@[simp] theorem State.setLatchByte_address (b : Byte) : (s.setLatchByte b).address = s.address := rfl
@[simp] theorem State.setLatchByte_mode (b : Byte) : (s.setLatchByte b).mode = s.mode := rfl
@[simp] theorem State.setLatchByte_latched (b : Byte) : (s.setLatchByte b).latched = s.latched := rfl
@[simp] theorem State.setLatchByte_latchByte (b : Byte) : (s.setLatchByte b).latchByte = b := rfl
@[simp] theorem State.setLatchByte_vram (b : Byte) : (s.setLatchByte b).vram = s.vram := rfl
@[simp] theorem State.setLatchByte_timing (b : Byte) : (s.setLatchByte b).timing = s.timing := rfl
@[simp] theorem State.setLatchByte_render (b : Byte) : (s.setLatchByte b).render = s.render := rfl
@[simp] theorem State.setLatchByte_portOut (b : Byte) : (s.setLatchByte b).portOut = s.portOut := rfl
@[simp] theorem State.setLatchByte_lineOut (b : Byte) : (s.setLatchByte b).lineOut = s.lineOut := rfl
@[simp] theorem State.setLatchByte_surface (b : Byte) : (s.setLatchByte b).surface = s.surface := rfl
@[simp] theorem State.setLatchByte_diags (b : Byte) : (s.setLatchByte b).diags = s.diags := rfl
@[simp] theorem State.setLatchByte_draws (b : Byte) : (s.setLatchByte b).draws = s.draws := rfl
@[simp] theorem State.setLatchByte_params (b : Byte) : (s.setLatchByte b).params = s.params := rfl
@[simp] theorem State.setLatchByte_trace (b : Byte) : (s.setLatchByte b).trace = s.trace := rfl
@[simp] theorem State.setLatchByte_vramBytes (b : Byte) : (s.setLatchByte b).vramBytes = s.vramBytes := rfl
@[simp] theorem State.setLatchByte_memRead (b : Byte) (x : Nat) : (s.setLatchByte b).memRead x = s.memRead x := rfl

@[simp] theorem State.setReg_regs (i : BitVec 3) (v : Byte) : (s.setReg i v).regs = s.regs.set i v := rfl
@[simp] theorem State.setReg_status (i : BitVec 3) (v : Byte) : (s.setReg i v).status = s.status := rfl
@[simp] theorem State.setReg_address (i : BitVec 3) (v : Byte) : (s.setReg i v).address = s.address := rfl
@[simp] theorem State.setReg_mode (i : BitVec 3) (v : Byte) : (s.setReg i v).mode = s.mode := rfl
@[simp] theorem State.setReg_latched (i : BitVec 3) (v : Byte) : (s.setReg i v).latched = s.latched := rfl
@[simp] theorem State.setReg_latchByte (i : BitVec 3) (v : Byte) : (s.setReg i v).latchByte = s.latchByte := rfl
@[simp] theorem State.setReg_vram (i : BitVec 3) (v : Byte) : (s.setReg i v).vram = s.vram := rfl
@[simp] theorem State.setReg_timing (i : BitVec 3) (v : Byte) : (s.setReg i v).timing = s.timing := rfl
@[simp] theorem State.setReg_render (i : BitVec 3) (v : Byte) : (s.setReg i v).render = s.render := rfl
@[simp] theorem State.setReg_portOut (i : BitVec 3) (v : Byte) : (s.setReg i v).portOut = s.portOut := rfl
@[simp] theorem State.setReg_lineOut (i : BitVec 3) (v : Byte) : (s.setReg i v).lineOut = s.lineOut := rfl
@[simp] theorem State.setReg_surface (i : BitVec 3) (v : Byte) : (s.setReg i v).surface = s.surface := rfl
@[simp] theorem State.setReg_diags (i : BitVec 3) (v : Byte) : (s.setReg i v).diags = s.diags := rfl
@[simp] theorem State.setReg_draws (i : BitVec 3) (v : Byte) : (s.setReg i v).draws = s.draws := rfl
@[simp] theorem State.setReg_params (i : BitVec 3) (v : Byte) : (s.setReg i v).params = s.params := rfl
@[simp] theorem State.setReg_trace (i : BitVec 3) (v : Byte) : (s.setReg i v).trace = s.trace := rfl
@[simp] theorem State.setReg_vramBytes (i : BitVec 3) (v : Byte) : (s.setReg i v).vramBytes = s.vramBytes := rfl
@[simp] theorem State.setReg_memRead (i : BitVec 3) (v : Byte) (x : Nat) : (s.setReg i v).memRead x = s.memRead x := rfl

@[simp] theorem State.setStatus_regs (st : Byte) : (s.setStatus st).regs = s.regs := rfl
@[simp] theorem State.setStatus_status (st : Byte) : (s.setStatus st).status = st := rfl
@[simp] theorem State.setStatus_address (st : Byte) : (s.setStatus st).address = s.address := rfl
@[simp] theorem State.setStatus_mode (st : Byte) : (s.setStatus st).mode = s.mode := rfl
@[simp] theorem State.setStatus_latched (st : Byte) : (s.setStatus st).latched = s.latched := rfl
@[simp] theorem State.setStatus_latchByte (st : Byte) : (s.setStatus st).latchByte = s.latchByte := rfl
@[simp] theorem State.setStatus_vram (st : Byte) : (s.setStatus st).vram = s.vram := rfl
@[simp] theorem State.setStatus_timing (st : Byte) : (s.setStatus st).timing = s.timing := rfl
@[simp] theorem State.setStatus_render (st : Byte) : (s.setStatus st).render = s.render := rfl
@[simp] theorem State.setStatus_portOut (st : Byte) : (s.setStatus st).portOut = s.portOut := rfl
@[simp] theorem State.setStatus_lineOut (st : Byte) : (s.setStatus st).lineOut = s.lineOut := rfl
@[simp] theorem State.setStatus_surface (st : Byte) : (s.setStatus st).surface = s.surface := rfl
@[simp] theorem State.setStatus_diags (st : Byte) : (s.setStatus st).diags = s.diags := rfl
@[simp] theorem State.setStatus_draws (st : Byte) : (s.setStatus st).draws = s.draws := rfl
@[simp] theorem State.setStatus_params (st : Byte) : (s.setStatus st).params = s.params := rfl
@[simp] theorem State.setStatus_trace (st : Byte) : (s.setStatus st).trace = s.trace := rfl
@[simp] theorem State.setStatus_vramBytes (st : Byte) : (s.setStatus st).vramBytes = s.vramBytes := rfl
@[simp] theorem State.setStatus_memRead (st : Byte) (x : Nat) : (s.setStatus st).memRead x = s.memRead x := rfl

@[simp] theorem State.setRender_regs (t : Option LineTask) : (s.setRender t).regs = s.regs := rfl
@[simp] theorem State.setRender_status (t : Option LineTask) : (s.setRender t).status = s.status := rfl
@[simp] theorem State.setRender_address (t : Option LineTask) : (s.setRender t).address = s.address := rfl
@[simp] theorem State.setRender_mode (t : Option LineTask) : (s.setRender t).mode = s.mode := rfl
@[simp] theorem State.setRender_latched (t : Option LineTask) : (s.setRender t).latched = s.latched := rfl
@[simp] theorem State.setRender_latchByte (t : Option LineTask) : (s.setRender t).latchByte = s.latchByte := rfl
@[simp] theorem State.setRender_vram (t : Option LineTask) : (s.setRender t).vram = s.vram := rfl
@[simp] theorem State.setRender_timing (t : Option LineTask) : (s.setRender t).timing = s.timing := rfl
@[simp] theorem State.setRender_render (t : Option LineTask) : (s.setRender t).render = t := rfl
@[simp] theorem State.setRender_portOut (t : Option LineTask) : (s.setRender t).portOut = s.portOut := rfl
@[simp] theorem State.setRender_lineOut (t : Option LineTask) : (s.setRender t).lineOut = s.lineOut := rfl
@[simp] theorem State.setRender_surface (t : Option LineTask) : (s.setRender t).surface = s.surface := rfl
@[simp] theorem State.setRender_diags (t : Option LineTask) : (s.setRender t).diags = s.diags := rfl
@[simp] theorem State.setRender_draws (t : Option LineTask) : (s.setRender t).draws = s.draws := rfl
@[simp] theorem State.setRender_params (t : Option LineTask) : (s.setRender t).params = s.params := rfl
@[simp] theorem State.setRender_trace (t : Option LineTask) : (s.setRender t).trace = s.trace := rfl
@[simp] theorem State.setRender_vramBytes (t : Option LineTask) : (s.setRender t).vramBytes = s.vramBytes := rfl
@[simp] theorem State.setRender_memRead (t : Option LineTask) (x : Nat) : (s.setRender t).memRead x = s.memRead x := rfl

@[simp] theorem State.answer_regs (r : PortResult) : (s.answer r).regs = s.regs := rfl
@[simp] theorem State.answer_status (r : PortResult) : (s.answer r).status = s.status := rfl
@[simp] theorem State.answer_address (r : PortResult) : (s.answer r).address = s.address := rfl
@[simp] theorem State.answer_mode (r : PortResult) : (s.answer r).mode = s.mode := rfl
@[simp] theorem State.answer_latched (r : PortResult) : (s.answer r).latched = s.latched := rfl
@[simp] theorem State.answer_latchByte (r : PortResult) : (s.answer r).latchByte = s.latchByte := rfl
@[simp] theorem State.answer_vram (r : PortResult) : (s.answer r).vram = s.vram := rfl
@[simp] theorem State.answer_timing (r : PortResult) : (s.answer r).timing = s.timing := rfl
@[simp] theorem State.answer_render (r : PortResult) : (s.answer r).render = s.render := rfl
@[simp] theorem State.answer_portOut (r : PortResult) : (s.answer r).portOut = r := rfl
@[simp] theorem State.answer_lineOut (r : PortResult) : (s.answer r).lineOut = s.lineOut := rfl
@[simp] theorem State.answer_surface (r : PortResult) : (s.answer r).surface = s.surface := rfl
@[simp] theorem State.answer_diags (r : PortResult) : (s.answer r).diags = s.diags := rfl
@[simp] theorem State.answer_draws (r : PortResult) : (s.answer r).draws = s.draws := rfl
@[simp] theorem State.answer_params (r : PortResult) : (s.answer r).params = s.params := rfl
@[simp] theorem State.answer_trace (r : PortResult) : (s.answer r).trace = s.trace := rfl
@[simp] theorem State.answer_vramBytes (r : PortResult) : (s.answer r).vramBytes = s.vramBytes := rfl
@[simp] theorem State.answer_memRead (r : PortResult) (x : Nat) : (s.answer r).memRead x = s.memRead x := rfl

@[simp] theorem State.raise_regs (d : Diag) : (s.raise d).regs = s.regs := rfl
@[simp] theorem State.raise_status (d : Diag) : (s.raise d).status = s.status := rfl
@[simp] theorem State.raise_address (d : Diag) : (s.raise d).address = s.address := rfl
@[simp] theorem State.raise_mode (d : Diag) : (s.raise d).mode = s.mode := rfl
@[simp] theorem State.raise_latched (d : Diag) : (s.raise d).latched = s.latched := rfl
@[simp] theorem State.raise_latchByte (d : Diag) : (s.raise d).latchByte = s.latchByte := rfl
@[simp] theorem State.raise_vram (d : Diag) : (s.raise d).vram = s.vram := rfl
@[simp] theorem State.raise_timing (d : Diag) : (s.raise d).timing = s.timing := rfl
@[simp] theorem State.raise_render (d : Diag) : (s.raise d).render = s.render := rfl
@[simp] theorem State.raise_portOut (d : Diag) : (s.raise d).portOut = s.portOut := rfl
@[simp] theorem State.raise_lineOut (d : Diag) : (s.raise d).lineOut = s.lineOut := rfl
@[simp] theorem State.raise_surface (d : Diag) : (s.raise d).surface = s.surface := rfl
@[simp] theorem State.raise_diags (d : Diag) : (s.raise d).diags = s.diags ++ [d] := rfl
@[simp] theorem State.raise_draws (d : Diag) : (s.raise d).draws = s.draws := rfl
@[simp] theorem State.raise_params (d : Diag) : (s.raise d).params = s.params := rfl
@[simp] theorem State.raise_trace (d : Diag) : (s.raise d).trace = s.trace := rfl
@[simp] theorem State.raise_vramBytes (d : Diag) : (s.raise d).vramBytes = s.vramBytes := rfl
@[simp] theorem State.raise_memRead (d : Diag) (x : Nat) : (s.raise d).memRead x = s.memRead x := rfl

@[simp] theorem State.draw_regs : (s.draw).regs = s.regs := rfl
@[simp] theorem State.draw_status : (s.draw).status = s.status := rfl
@[simp] theorem State.draw_address : (s.draw).address = s.address := rfl
@[simp] theorem State.draw_mode : (s.draw).mode = s.mode := rfl
@[simp] theorem State.draw_latched : (s.draw).latched = s.latched := rfl
@[simp] theorem State.draw_latchByte : (s.draw).latchByte = s.latchByte := rfl
@[simp] theorem State.draw_vram : (s.draw).vram = s.vram := rfl
@[simp] theorem State.draw_timing : (s.draw).timing = s.timing := rfl
@[simp] theorem State.draw_render : (s.draw).render = s.render := rfl
@[simp] theorem State.draw_portOut : (s.draw).portOut = s.portOut := rfl
@[simp] theorem State.draw_lineOut : (s.draw).lineOut = s.lineOut := rfl
@[simp] theorem State.draw_surface : (s.draw).surface = s.surface := rfl
@[simp] theorem State.draw_diags : (s.draw).diags = s.diags := rfl
@[simp] theorem State.draw_draws : (s.draw).draws = s.draws + 1 := rfl
@[simp] theorem State.draw_params : (s.draw).params = s.params := rfl
@[simp] theorem State.draw_trace : (s.draw).trace = s.trace := rfl
@[simp] theorem State.draw_vramBytes : (s.draw).vramBytes = s.vramBytes := rfl
@[simp] theorem State.draw_memRead (x : Nat) : (s.draw).memRead x = s.memRead x := rfl

@[simp] theorem State.recordAccess_regs (cat e : Nat) : (s.recordAccess cat e).regs = s.regs := rfl
@[simp] theorem State.recordAccess_status (cat e : Nat) : (s.recordAccess cat e).status = s.status := rfl
@[simp] theorem State.recordAccess_address (cat e : Nat) : (s.recordAccess cat e).address = s.address := rfl
@[simp] theorem State.recordAccess_mode (cat e : Nat) : (s.recordAccess cat e).mode = s.mode := rfl
@[simp] theorem State.recordAccess_latched (cat e : Nat) : (s.recordAccess cat e).latched = s.latched := rfl
@[simp] theorem State.recordAccess_latchByte (cat e : Nat) : (s.recordAccess cat e).latchByte = s.latchByte := rfl
@[simp] theorem State.recordAccess_vram (cat e : Nat) : (s.recordAccess cat e).vram = s.vram := rfl
@[simp] theorem State.recordAccess_timing (cat e : Nat) : (s.recordAccess cat e).timing = { s.timing with last := TimingState.insert s.timing.last cat e } := rfl
@[simp] theorem State.recordAccess_render (cat e : Nat) : (s.recordAccess cat e).render = s.render := rfl
@[simp] theorem State.recordAccess_portOut (cat e : Nat) : (s.recordAccess cat e).portOut = s.portOut := rfl
@[simp] theorem State.recordAccess_lineOut (cat e : Nat) : (s.recordAccess cat e).lineOut = s.lineOut := rfl
@[simp] theorem State.recordAccess_surface (cat e : Nat) : (s.recordAccess cat e).surface = s.surface := rfl
@[simp] theorem State.recordAccess_diags (cat e : Nat) : (s.recordAccess cat e).diags = s.diags := rfl
@[simp] theorem State.recordAccess_draws (cat e : Nat) : (s.recordAccess cat e).draws = s.draws := rfl
@[simp] theorem State.recordAccess_params (cat e : Nat) : (s.recordAccess cat e).params = s.params := rfl
@[simp] theorem State.recordAccess_trace (cat e : Nat) : (s.recordAccess cat e).trace = s.trace := rfl
@[simp] theorem State.recordAccess_vramBytes (cat e : Nat) : (s.recordAccess cat e).vramBytes = s.vramBytes := rfl
@[simp] theorem State.recordAccess_memRead (cat e : Nat) (x : Nat) : (s.recordAccess cat e).memRead x = s.memRead x := rfl

@[simp] theorem State.advance_regs : (s.advance).regs = s.regs := rfl
@[simp] theorem State.advance_status : (s.advance).status = s.status := rfl
@[simp] theorem State.advance_address : (s.advance).address = s.address := rfl
@[simp] theorem State.advance_mode : (s.advance).mode = s.mode := rfl
@[simp] theorem State.advance_latched : (s.advance).latched = s.latched := rfl
@[simp] theorem State.advance_latchByte : (s.advance).latchByte = s.latchByte := rfl
@[simp] theorem State.advance_vram : (s.advance).vram = s.vram := rfl
@[simp] theorem State.advance_timing : (s.advance).timing = s.timing := rfl
@[simp] theorem State.advance_render : (s.advance).render = s.render := rfl
@[simp] theorem State.advance_portOut : (s.advance).portOut = s.portOut := rfl
@[simp] theorem State.advance_lineOut : (s.advance).lineOut = s.lineOut := rfl
@[simp] theorem State.advance_surface : (s.advance).surface = s.surface := rfl
@[simp] theorem State.advance_diags : (s.advance).diags = s.diags := rfl
@[simp] theorem State.advance_draws : (s.advance).draws = s.draws := rfl
@[simp] theorem State.advance_params : (s.advance).params = s.params := rfl
@[simp] theorem State.advance_trace : (s.advance).trace = s.trace.tail := rfl
@[simp] theorem State.advance_vramBytes : (s.advance).vramBytes = s.vramBytes := rfl
@[simp] theorem State.advance_memRead (x : Nat) : (s.advance).memRead x = s.memRead x := rfl

@[simp] theorem State.withEvent_regs (ev : Event) : (s.withEvent ev).regs = s.regs := rfl
@[simp] theorem State.withEvent_status (ev : Event) : (s.withEvent ev).status = s.status := rfl
@[simp] theorem State.withEvent_address (ev : Event) : (s.withEvent ev).address = s.address := rfl
@[simp] theorem State.withEvent_mode (ev : Event) : (s.withEvent ev).mode = s.mode := rfl
@[simp] theorem State.withEvent_latched (ev : Event) : (s.withEvent ev).latched = s.latched := rfl
@[simp] theorem State.withEvent_latchByte (ev : Event) : (s.withEvent ev).latchByte = s.latchByte := rfl
@[simp] theorem State.withEvent_vram (ev : Event) : (s.withEvent ev).vram = s.vram := rfl
@[simp] theorem State.withEvent_timing (ev : Event) : (s.withEvent ev).timing = s.timing := rfl
@[simp] theorem State.withEvent_render (ev : Event) : (s.withEvent ev).render = s.render := rfl
@[simp] theorem State.withEvent_portOut (ev : Event) : (s.withEvent ev).portOut = s.portOut := rfl
@[simp] theorem State.withEvent_lineOut (ev : Event) : (s.withEvent ev).lineOut = s.lineOut := rfl
@[simp] theorem State.withEvent_surface (ev : Event) : (s.withEvent ev).surface = s.surface := rfl
@[simp] theorem State.withEvent_diags (ev : Event) : (s.withEvent ev).diags = s.diags := rfl
@[simp] theorem State.withEvent_draws (ev : Event) : (s.withEvent ev).draws = s.draws := rfl
@[simp] theorem State.withEvent_params (ev : Event) : (s.withEvent ev).params = s.params := rfl
@[simp] theorem State.withEvent_trace (ev : Event) : (s.withEvent ev).trace = ev :: s.trace := rfl
@[simp] theorem State.withEvent_vramBytes (ev : Event) : (s.withEvent ev).vramBytes = s.vramBytes := rfl
@[simp] theorem State.withEvent_memRead (ev : Event) (x : Nat) : (s.withEvent ev).memRead x = s.memRead x := rfl

end Sys2Proof.Machine
end

