-- ==== Sys2Proof/Laws/Memory.lean ====
section
/-! SUPPORT. The laws of VRAM: a read after a write, and that every write keeps the canonical form. -/

namespace Sys2Proof.Machine

/-- A redundant byte is what every unlisted address reads as. -/
theorem Memory.unwritten_of_redundant {i : VramInit} {v : Byte} (h : Memory.redundant i v = true) (a : Nat) :
    Memory.unwritten i a = v := by
  cases i with
  | unspecified => simp [Memory.redundant] at h
  | fill b => simpa [Memory.redundant, Memory.unwritten, eq_comm] using h

theorem Memory.wfFrom_mono {i : VramInit} {lo lo' : Nat} (h : lo' ≤ lo) : ∀ {m : Memory},
    Memory.wfFrom i lo m = true → Memory.wfFrom i lo' m = true
  | [], _ => rfl
  | (b, w) :: m, hm => by
    simp only [Memory.wfFrom, Bool.and_eq_true, decide_eq_true_eq, Bool.not_eq_true'] at hm ⊢
    exact ⟨⟨by omega, hm.1.2⟩, hm.2⟩

/-- An address below every listed one is unwritten. -/
theorem Memory.read_below {i : VramInit} {lo a : Nat} : ∀ {m : Memory}, Memory.wfFrom i lo m = true → a < lo →
    Memory.read i m a = Memory.unwritten i a
  | [], _, _ => rfl
  | (b, w) :: m, hm, ha => by
    simp only [Memory.wfFrom, Bool.and_eq_true, decide_eq_true_eq, Bool.not_eq_true'] at hm
    have hb : a ≠ b := by omega
    simp only [Memory.read, hb, if_false]
    exact Memory.read_below hm.2 (by omega)

/-- A read after a write to the same address gives the value written. -/
theorem Memory.read_write_same {i : VramInit} {lo a : Nat} {v : Byte} : ∀ {m : Memory}, Memory.wfFrom i lo m = true →
    Memory.read i (Memory.write i m a v) a = v
  | [], _ => by
    by_cases hv : Memory.redundant i v = true
    · simp [Memory.write, Memory.read, hv, Memory.unwritten_of_redundant hv]
    · simp [Memory.write, Memory.read, hv]
  | (b, w) :: m, hm => by
    have hm' := hm
    simp only [Memory.wfFrom, Bool.and_eq_true, decide_eq_true_eq, Bool.not_eq_true'] at hm'
    rcases Nat.lt_trichotomy a b with h | h | h
    · by_cases hv : Memory.redundant i v = true
      · have hbelow : Memory.wfFrom i b ((b, w) :: m) = true := by
          simp [Memory.wfFrom, hm'.1.2, hm'.2]
        simp only [Memory.write, h, if_true, hv]
        rw [Memory.read_below hbelow h, Memory.unwritten_of_redundant hv]
      · simp [Memory.write, Memory.read, h, hv]
    · subst h
      by_cases hv : Memory.redundant i v = true
      · simp only [Memory.write, Nat.lt_irrefl, if_true, if_false, hv]
        rw [Memory.read_below hm'.2 (by omega), Memory.unwritten_of_redundant hv]
      · simp [Memory.write, Memory.read, hv]
    · have h1 : ¬ a < b := by omega
      have h2 : a ≠ b := by omega
      simp only [Memory.write, h1, h2, if_false, Memory.read]
      exact Memory.read_write_same hm'.2

/-- A write leaves every other address alone. -/
theorem Memory.read_write_other {i : VramInit} {a x : Nat} {v : Byte} (hx : x ≠ a) : ∀ m : Memory,
    Memory.read i (Memory.write i m a v) x = Memory.read i m x
  | [] => by
    by_cases hv : Memory.redundant i v = true <;> simp [Memory.write, Memory.read, hv, hx]
  | (b, w) :: m => by
    by_cases h1 : a < b
    · by_cases hv : Memory.redundant i v = true <;> simp [Memory.write, Memory.read, h1, hv, hx]
    · by_cases h2 : a = b
      · subst h2
        by_cases hv : Memory.redundant i v = true <;> simp [Memory.write, Memory.read, hv, hx]
      · simp only [Memory.write, h1, h2, if_false, Memory.read, Memory.read_write_other hx m]

/-- A write keeps the canonical form. -/
theorem Memory.write_wfFrom {i : VramInit} {lo a : Nat} {v : Byte} : ∀ {m : Memory}, lo ≤ a → Memory.wfFrom i lo m = true →
    Memory.wfFrom i lo (Memory.write i m a v) = true
  | [], ha, _ => by
    by_cases hv : Memory.redundant i v = true <;> simp [Memory.write, Memory.wfFrom, hv, ha]
  | (b, w) :: m, ha, hm => by
    have hm' := hm
    simp only [Memory.wfFrom, Bool.and_eq_true, decide_eq_true_eq, Bool.not_eq_true'] at hm'
    rcases Nat.lt_trichotomy a b with h | h | h
    · by_cases hv : Memory.redundant i v = true
      · simpa [Memory.write, h, hv] using hm
      · have h1 : a + 1 ≤ b := h
        simp [Memory.write, Memory.wfFrom, h, hv, ha, h1, hm'.1.2, hm'.2]
    · subst h
      by_cases hv : Memory.redundant i v = true
      · simp only [Memory.write, Nat.lt_irrefl, if_true, if_false, hv]
        exact Memory.wfFrom_mono (by omega) hm'.2
      · simp [Memory.write, Memory.wfFrom, hv, ha, hm'.2]
    · have h1 : ¬ a < b := by omega
      have h2 : a ≠ b := by omega
      simp only [Memory.write, h1, h2, if_false, Memory.wfFrom, Bool.and_eq_true, decide_eq_true_eq, Bool.not_eq_true']
      exact ⟨hm'.1, Memory.write_wfFrom h hm'.2⟩

theorem Memory.write_wf {i : VramInit} {m : Memory} (a : Nat) (v : Byte) (h : Memory.wf i m = true) :
    Memory.wf i (Memory.write i m a v) = true := Memory.write_wfFrom (Nat.zero_le a) h

/-- A write inside VRAM_SIZE keeps every listed address inside it. -/
theorem Memory.write_below {i : VramInit} {size a : Nat} {v : Byte} (ha : a < size) : ∀ {m : Memory},
    Memory.below size m = true → Memory.below size (Memory.write i m a v) = true
  | [], _ => by
    by_cases hv : Memory.redundant i v = true <;> simp [Memory.write, Memory.below, hv, ha]
  | (b, w) :: m, hm => by
    have hm' : b < size ∧ Memory.below size m = true := by simpa [Memory.below] using hm
    have ih := Memory.write_below (i := i) (v := v) ha hm'.2
    have hall : ∀ {l : Memory}, Memory.below size l = true → ∀ x y, (x, y) ∈ l → x < size := by
      intro l hl x y hxy
      simpa using List.all_eq_true.mp hl (x, y) hxy
    apply List.all_eq_true.mpr
    intro c hc
    simp only [Memory.write] at hc
    have : c.1 < size := by
      split at hc
      · split at hc
        · exact hall hm c.1 c.2 hc
        · rcases List.mem_cons.mp hc with rfl | hc
          · exact ha
          · exact hall hm c.1 c.2 hc
      · split at hc
        · split at hc
          · exact hall hm'.2 c.1 c.2 hc
          · rcases List.mem_cons.mp hc with rfl | hc
            · exact ha
            · exact hall hm'.2 c.1 c.2 hc
        · rcases List.mem_cons.mp hc with rfl | hc
          · exact hm'.1
          · exact hall ih c.1 c.2 hc
    simpa using this

/-- VRAM_SIZE is one of the three legal sizes, so a multiple of 256 that 14 bits can address (R4). -/
theorem VramSize.bytes_cases (z : VramSize) : z.bytes = 4096 ∨ z.bytes = 8192 ∨ z.bytes = 16384 := by
  cases z <;> simp [VramSize.bytes]

theorem State.vramBytes_pos (s : State) : 0 < s.vramBytes := by
  rcases VramSize.bytes_cases s.params.vramSize with h | h | h <;> simp [State.vramBytes, h]

theorem State.vramBytes_le (s : State) : s.vramBytes ≤ 16384 := by
  rcases VramSize.bytes_cases s.params.vramSize with h | h | h <;> simp [State.vramBytes, h]

/-- MemRead after MemWrite at the same address of VRAM. -/
theorem State.memRead_memWrite_same {s : State} (h : s.vramWf = true) (a : Nat) (v : Byte) :
    (s.memWrite a v).memRead a = v := Memory.read_write_same h

/-- MemRead after MemWrite at another address of VRAM. -/
theorem State.memRead_memWrite_other (s : State) {a x : Nat} (v : Byte) (hx : x % s.vramBytes ≠ a % s.vramBytes) :
    (s.memWrite a v).memRead x = s.memRead x := Memory.read_write_other hx s.vram

theorem State.memWrite_wf {s : State} (h : s.vramWf = true) (a : Nat) (v : Byte) :
    (s.memWrite a v).vramWf = true := Memory.write_wf _ v h

theorem State.memWrite_below {s : State} (h : Memory.below s.vramBytes s.vram = true) (a : Nat) (v : Byte) :
    Memory.below s.vramBytes (s.memWrite a v).vram = true :=
  Memory.write_below (Nat.mod_lt _ s.vramBytes_pos) h

/-- The memory of the reset state is in canonical form. -/
theorem reset_memory_wf : State.reset.vramWf = true := rfl

/-- The address counter after a write of it (R22). -/
theorem State.setAddress_toNat (s : State) (v : Nat) : (s.setAddress v).address.toNat = v % s.vramBytes := by
  have h1 := Nat.mod_lt v s.vramBytes_pos
  have h2 := s.vramBytes_le
  simp only [State.setAddress_address, BitVec.toNat_ofNat]
  exact Nat.mod_eq_of_lt (by omega)

theorem State.advanceAddress_toNat (s : State) :
    s.advanceAddress.address.toNat = (s.address.toNat + 1) % s.vramBytes := s.setAddress_toNat _

end Sys2Proof.Machine
end

