-- ==== Sys2Proof/Laws/Ops.lean ====
section
/-! SUPPORT. What the timing gate and the gated operations can do, said once; registers and status fields. -/

namespace Sys2Proof.Machine

theorem gate_of_absent {s : State} (h : s.params.validator = .absent) (op : TimedOp) (e : Nat) :
    s.gate op e = .pass s := by simp [State.gate, h]

/-- The gate passes exactly the accesses that `PassesGate` describes. -/
theorem gate_pass_iff (s s1 : State) (op : TimedOp) (e : Nat) :
    s.gate op e = .pass s1 ↔ PassesGate op e s s1 := by
  unfold State.gate PassesGate TooSoon
  cases hv : s.params.validator with
  | absent => simp [eq_comm]
  | present v =>
    by_cases he : e < s.timing.latest
    · have : ¬ s.timing.latest ≤ e := by omega
      simp [he, this]
    · have hle : s.timing.latest ≤ e := by omega
      by_cases hg : s.requiredGap v (categoryOf v op) e ≤ s.accessGap (categoryOf v op) e
      · have : ¬ s.accessGap (categoryOf v op) e < s.requiredGap v (categoryOf v op) e := by omega
        simp [he, hle, hg, this, eq_comm]
      · have hlt : s.accessGap (categoryOf v op) e < s.requiredGap v (categoryOf v op) e := by omega
        cases hp : v.policy <;> simp [he, hle, hg, hlt, hp, eq_comm]

/-- What passes the gate differs from what came to it at most in the timing state and the diagnostics. -/
theorem PassesGate.cases {op : TimedOp} {e : Nat} {s s1 : State} (h : PassesGate op e s s1) :
    s1 = s ∨ (∃ c, s1 = s.recordAccess c e) ∨ ∃ c g q, s1 = (s.recordAccess c e).raise (.timingViolation c g q) := by
  rcases h with ⟨-, h⟩ | ⟨v, -, -, -, h⟩ | ⟨v, -, -, h⟩
  · exact .inl h
  · exact .inr (.inl ⟨_, h⟩)
  · exact .inr (.inr ⟨_, _, _, h⟩)

/-- A gated operation whose access passes runs. -/
theorem timed_of_passes {op : TimedOp} {e : Nat} {dropped run : State → State} {s s1 : State}
    (h : PassesGate op e s s1) : timed op e dropped run s = .next (run s1) := by
  simp [timed, (gate_pass_iff s s1 op e).mpr h]

/-- A gated operation that answers a next state has either run or been dropped. -/
theorem timed_next_cases {op : TimedOp} {e : Nat} {dropped run : State → State} {s t : State}
    (h : timed op e dropped run s = .next t) :
    (∃ s1, PassesGate op e s s1 ∧ t = run s1) ∨ (∃ s1, s.gate op e = .drop s1 ∧ t = dropped s1) := by
  unfold timed at h
  split at h
  · rename_i s1 hg
    exact .inl ⟨s1, (gate_pass_iff s s1 op e).mp hg, by simpa using h.symm⟩
  · rename_i s1 hg
    exact .inr ⟨s1, hg, by simpa using h.symm⟩
  · simp at h
  · simp at h

/-- What a dropped access leaves: its time recorded and one diagnostic raised. -/
theorem gate_drop_cases {s s1 : State} {op : TimedOp} {e : Nat} (h : s.gate op e = .drop s1) :
    ∃ c g q, s1 = (s.recordAccess c e).raise (.timingViolation c g q) := by
  unfold State.gate at h
  split at h
  · simp at h
  · split at h
    · simp at h
    · dsimp only at h
      split at h
      · simp at h
      · split at h
        · simp at h
        · exact ⟨_, _, _, (GateResult.drop.inj h).symm⟩
        · simp at h

/-- Without the validator a gated operation always runs. -/
theorem timed_of_absent {op : TimedOp} {e : Nat} {dropped run : State → State} {s : State}
    (h : s.params.validator = .absent) : timed op e dropped run s = .next (run s) := by
  simp [timed, gate_of_absent h]

/-- The timestamps after one is replaced (R166): the category's own, and no other. -/
theorem TimingState.lookup_insert (c cat e : Nat) : ∀ l : List (Nat × Nat),
    TimingState.lookup (TimingState.insert l cat e) c = if c = cat then some e else TimingState.lookup l c
  | [] => by simp [TimingState.insert, TimingState.lookup]
  | (d, u) :: l => by
    have ih := TimingState.lookup_insert c cat e l
    unfold TimingState.insert
    split
    · simp [TimingState.lookup]
    · split <;> by_cases hc : c = cat <;> by_cases hd : c = d <;> simp_all [TimingState.lookup]

/-- Register numbers, one by one. -/
theorem reg_cases (i : BitVec 3) : i = 0 ∨ i = 1 ∨ i = 2 ∨ i = 3 ∨ i = 4 ∨ i = 5 ∨ i = 6 ∨ i = 7 := by
  revert i; decide

/-- A register read after a write of it. -/
theorem RegFile.get_set_same (r : RegFile) (i : BitVec 3) (v : Byte) : (r.set i v).get i = v := by
  rcases reg_cases i with h | h | h | h | h | h | h | h <;> subst h <;> rfl

/-- A register read after a write of another. -/
theorem RegFile.get_set_other (r : RegFile) {i j : BitVec 3} (v : Byte) (h : j ≠ i) :
    (r.set i v).get j = r.get j := by
  rcases reg_cases i with hi | hi | hi | hi | hi | hi | hi | hi <;> subst hi <;>
    rcases reg_cases j with hj | hj | hj | hj | hj | hj | hj | hj <;> subst hj <;>
      first | rfl | exact absurd rfl h

/-- The fields after F <- 1. -/
theorem setF_fields (st : Byte) : statusF (setF st) = true ∧ statusS5 (setF st) = statusS5 st ∧
    statusC (setF st) = statusC st ∧ statusFSN (setF st) = statusFSN st := by
  revert st; decide +kernel

/-- The fields after F <- 0. -/
theorem clearF_fields (st : Byte) : statusF (clearF st) = false ∧ statusS5 (clearF st) = statusS5 st ∧
    statusC (clearF st) = statusC st ∧ statusFSN (clearF st) = statusFSN st := by
  revert st; decide +kernel

/-- The fields after C <- 1. -/
theorem setC_fields (st : Byte) : statusC (setC st) = true ∧ statusF (setC st) = statusF st ∧
    statusS5 (setC st) = statusS5 st ∧ statusFSN (setC st) = statusFSN st := by
  revert st; decide +kernel

/-- Recording a fifth sprite when S5 is set changes nothing. -/
theorem recordFifth_of_set {st : Byte} (n : Nat) (h : statusS5 st = true) : recordFifth n st = st := by
  simp [recordFifth, h]

/-- The fields after a fifth sprite is recorded while S5 is 0. -/
theorem recordFifth_fields {st : Byte} (n : Nat) (h : statusS5 st = false) :
    statusS5 (recordFifth n st) = true ∧ statusFSN (recordFifth n st) = BitVec.ofNat 5 n ∧
    statusF (recordFifth n st) = statusF st ∧ statusC (recordFifth n st) = statusC st := by
  have key : ∀ (st : Byte) (k : BitVec 5),
      let st' : Byte := (st &&& 0xA0) ||| 0x40 ||| k.setWidth 8
      statusS5 st' = true ∧ statusFSN st' = k ∧ statusF st' = statusF st ∧ statusC st' = statusC st := by
    decide +kernel
  simpa [recordFifth, h] using key st (BitVec.ofNat 5 n)

/-- RESET's zero fields. -/
theorem status_zero_fields : statusF 0x00 = false ∧ statusS5 0x00 = false ∧ statusC 0x00 = false ∧
    statusFSN 0x00 = 0 := by decide

end Sys2Proof.Machine
end

