-- ==== Sys2Proof/Laws/PerInstr.lean ====
section
/-! SUPPORT. Per-instruction family TableRow: the word that the encoder gives an operation is one that the operation's
row of spec/opcode_table.json matches, and a row without a pattern of bits has no word. -/

namespace Sys2Proof.Laws.TableRow

/-- word & mask = match. -/
def Statement (i : Instr) : Prop :=
  match tableRow i with
  | none => (encode i).word = none
  | some (mask, pattern) => ∃ w, (encode i).word = some w ∧ w &&& mask = pattern

/-- The class bits of a second byte, whatever its bits 5:0. -/
theorem secondByte_class : ∀ (cls : BitVec 2) (low : BitVec 6),
    (secondByte cls low).toNat &&& 0xC0 = cls.toNat * 64 := by decide +kernel

theorem wd (v : Byte) (e : Nat) : Statement (.wd v e) := ⟨v.toNat, rfl, Nat.and_zero _⟩
theorem rd (e : Nat) : Statement (.rd e) := rfl
theorem rs : Statement .rs := rfl
theorem wc1 (v : Byte) (e : Nat) : Statement (.wc1 v e) := ⟨v.toNat, rfl, Nat.and_zero _⟩
theorem setrd (a : BitVec 6) (e : Nat) : Statement (.setrd a e) := ⟨_, rfl, secondByte_class 0b00 a⟩
theorem setwr (a : BitVec 6) (e : Nat) : Statement (.setwr a e) := ⟨_, rfl, secondByte_class 0b01 a⟩
theorem regw (r x : BitVec 3) (e : Nat) : Statement (.regw r x e) := ⟨_, rfl, secondByte_class 0b10 (x ++ r)⟩
theorem cmdinv (x : BitVec 6) (e : Nat) : Statement (.cmdinv x e) := ⟨_, rfl, secondByte_class 0b11 x⟩
theorem intp : Statement .intp := rfl
theorem clrint : Statement .clrint := rfl
theorem frame (e : Nat) : Statement (.frame e) := rfl
theorem line (index : Nat) : Statement (.line index) := rfl
theorem reset : Statement .reset := rfl
theorem modeBlank : Statement .modeBlank := ⟨_, rfl, rfl⟩
theorem modeG1 : Statement .modeG1 := ⟨_, rfl, rfl⟩
theorem modeG2 : Statement .modeG2 := ⟨_, rfl, rfl⟩
theorem modeMc : Statement .modeMc := ⟨_, rfl, rfl⟩
theorem modeTx : Statement .modeTx := ⟨_, rfl, rfl⟩
theorem modeInvalidM2M3 : Statement .modeInvalidM2M3 := ⟨_, rfl, rfl⟩
theorem modeInvalidM1M3 : Statement .modeInvalidM1M3 := ⟨_, rfl, rfl⟩
theorem modeInvalidM1M2 : Statement .modeInvalidM1M2 := ⟨_, rfl, rfl⟩
theorem modeInvalidAll : Statement .modeInvalidAll := ⟨_, rfl, rfl⟩

end Sys2Proof.Laws.TableRow
end

