-- ==== Sys2Proof/Laws/Render.lean ====
section
/-! SUPPORT. The shape of what the renderers produce: lengths of rows, and what plotting keeps. -/

namespace Sys2Proof.Machine

theorem length_flatMap_const {α β : Type} (l : List α) (f : α → List β) (n : Nat) (h : ∀ x ∈ l, (f x).length = n) :
    (l.flatMap f).length = l.length * n := by
  induction l with
  | nil => simp
  | cons x l ih =>
    rw [List.flatMap_cons, List.length_append, h x (by simp), ih fun y hy => h y (by simp [hy]), List.length_cons,
      Nat.succ_mul, Nat.add_comm]

@[simp] theorem length_patternPixels (n : Nat) (pat : Byte) (fg bg : Colour) :
    (patternPixels n pat fg bg).length = n := by simp [patternPixels]

@[simp] theorem length_colouredCell (r : RegFile) (pat col : Byte) : (colouredCell r pat col).length = 8 := by
  simp [colouredCell]

@[simp] theorem length_blockCell (r : RegFile) (b : Byte) : (blockCell r b).length = 8 := by simp [blockCell]

@[simp] theorem length_textCell (r : RegFile) (pat : Byte) : (textCell r pat).length = 6 := by simp [textCell]

@[simp] theorem length_blankRow (r : RegFile) : (blankRow r).length = activeWidth := by simp [blankRow]

@[simp] theorem length_textMargin (r : RegFile) : (textMargin r).length = 8 := by simp [textMargin]

@[simp] theorem length_noneOccupied : noneOccupied.length = activeWidth := by simp [noneOccupied]

/-- A pixel keeps the lengths. -/
theorem plot_lengths (colour : Colour) (dx : Nat) (cv : Canvas) :
    (plot colour dx cv).row.length = cv.row.length ∧ (plot colour dx cv).occupied.length = cv.occupied.length := by
  unfold plot; split <;> simp

/-- What a pixel does to the status register: nothing, or C <- 1. -/
theorem plot_status (colour : Colour) (dx : Nat) (cv : Canvas) :
    (plot colour dx cv).status = cv.status ∨ (plot colour dx cv).status = setC cv.status := by
  unfold plot; split <;> simp

theorem plotAll_cons (colour : Colour) (dx : Nat) (l : List Nat) (cv : Canvas) :
    plotAll colour (dx :: l) cv = plotAll colour l (plot colour dx cv) := rfl

/-- A property that no pixel destroys is not destroyed by a source line. -/
theorem plotAll_keeps {P : Canvas → Prop} (hP : ∀ colour dx cv, P cv → P (plot colour dx cv)) (colour : Colour) :
    ∀ (l : List Nat) (cv : Canvas), P cv → P (plotAll colour l cv)
  | [], _, h => h
  | dx :: l, cv, h => by rw [plotAll_cons]; exact plotAll_keeps hP colour l _ (hP colour dx cv h)

/-- A property that neither a pixel nor the recording of a fifth sprite destroys is not destroyed by the walk. -/
theorem spriteWalk_keeps {P : Canvas → Prop} (hP : ∀ colour dx cv, P cv → P (plot colour dx cv))
    (hF : ∀ n cv, P cv → P { cv with status := recordFifth n cv.status })
    (bias : Int) (y : Nat) (r : RegFile) (rd : Nat → Byte) :
    ∀ (ns : List Nat) (count : Nat) (cv : Canvas), P cv → P (spriteWalk bias y r rd ns count cv)
  | [], _, _, h => h
  | n :: ns, count, cv, h => by
    simp only [spriteWalk]
    split
    · exact h
    · split
      · exact spriteWalk_keeps hP hF bias y r rd ns count cv h
      · split
        · exact hF n cv h
        · apply spriteWalk_keeps hP hF bias y r rd ns (count + 1)
          unfold drawSprite
          dsimp only
          split
          · exact h
          · exact plotAll_keeps hP _ _ cv h

/-- The sprites change no length. -/
theorem length_spriteRow (bias : Int) (y : Nat) (r : RegFile) (rd : Nat → Byte) (row : Row) (st : Byte) :
    (spriteRow bias y r rd row st).1.length = row.length := by
  unfold spriteRow
  exact spriteWalk_keeps (P := fun cv => cv.row.length = row.length)
    (fun colour dx cv h => by rw [(plot_lengths colour dx cv).1]; exact h) (fun _ _ h => h) bias y r rd _ _ _ rfl

/-- The columns of a sprite's pixels lie inside the row (R154). -/
theorem spriteColumns_lt {size scale : Nat} {x0 : Int} {bits : BitVec 16} {dx : Nat}
    (h : dx ∈ spriteColumns size scale x0 bits) : dx < activeWidth := by
  simp only [spriteColumns, List.mem_flatMap] at h
  obtain ⟨i, -, h⟩ := h
  split at h
  · simp only [List.mem_filterMap] at h
    obtain ⟨k, -, h⟩ := h
    split at h
    · rename_i hb
      have hd := Option.some.inj h
      simp only [activeWidth]
      omega
    · simp at h
  · simp at h

/-- The rows of a frame are as many as its scanlines. -/
theorem length_frameRows (bias : Int) (r : RegFile) (rd : Nat → Byte) :
    ∀ (ys : List Nat) (st : Byte), (frameRows bias r rd ys st).1.length = ys.length
  | [], _ => rfl
  | y :: ys, st => by simp [frameRows, length_frameRows bias r rd ys]

end Sys2Proof.Machine
end

