-- ==== Sys2Proof/Laws/Step.lean ====
section
/-! SUPPORT. What a step can do, said once. -/

namespace Sys2Proof.Machine

/-- A step that answers a next state took an event off the trace and did one of four things. -/
theorem step_next_cases {s t : State} (h : step s = .next t) :
    (s.nextAction = .idle ∧ t = s.advance) ∨
    (∃ i, s.nextAction = .run i ∧ exec i s.advance = .next t) ∨
    (∃ index g, s.nextAction = .startLine index g ∧ startLine index g s.advance = .next t) ∨
    (∃ task, s.nextAction = .render task ∧ t = renderAction task s.advance) := by
  unfold step at h
  split at h
  · rename_i ha; exact .inl ⟨ha, by simpa using h.symm⟩
  · rename_i i ha; exact .inr (.inl ⟨i, ha, h⟩)
  · rename_i index g ha; exact .inr (.inr (.inl ⟨index, g, ha, h⟩))
  · rename_i task ha; exact .inr (.inr (.inr ⟨task, ha, by simpa using h.symm⟩))
  · simp at h

/-- The action after decoding: it runs what the decoder read, or rejects. -/
theorem decodeAction_run_iff (c : Code) (i : Instr) : decodeAction c = .run i ↔ decode c = .ok i := by
  unfold decodeAction
  cases h : decode c <;> simp

/-- A scanline goes on byte by byte only when one is in progress that does not wait for its dispatch. -/
theorem nextAction_render {s : State} {task : LineTask} (h : s.nextAction = .render task) :
    s.render = some task ∧ task.phase ≠ .dispatch ∧ ∃ rest, s.trace = .renderNext :: rest := by
  unfold State.nextAction at h
  split at h
  · rename_i c hc
    unfold decodeAction at h
    split at h <;> simp at h
  · rename_i hc
    split at h
    · simp at h
    · rename_i rest hr
      split at h
      · rename_i t ht
        simp only [Action.render.injEq] at h
        subst h
        refine ⟨ht, fun hp => ?_, rest, hr⟩
        simp [State.fetchCode, hr, ht, hp] at hc
      · simp at h
    · simp at h

/-- A scanline starts only by its event. -/
theorem nextAction_startLine {s : State} {index : Nat} {g : Granularity} (h : s.nextAction = .startLine index g) :
    ∃ rest, s.trace = .lineStart index g :: rest := by
  unfold State.nextAction at h
  split at h
  · rename_i c hc
    unfold decodeAction at h
    split at h <;> simp at h
  · split at h
    · rename_i i g' rest hr
      simp only [Action.startLine.injEq] at h
      obtain ⟨rfl, rfl⟩ := h
      exact ⟨rest, hr⟩
    · split at h <;> simp at h
    · simp at h

/-- The start of a scanline that answers a next state has put it in progress. -/
theorem startLine_next_cases {index : Nat} {g : Granularity} {s t : State} (h : startLine index g s = .next t) :
    index < activeHeight ∧ s.render = none ∧ t = s.setRender (some (newLine index g s.regs)) := by
  unfold startLine at h
  split at h
  · simp at h
  · rename_i h1
    split at h
    · simp at h
    · rename_i h2
      refine ⟨by omega, by simpa using h2, by simpa using h.symm⟩

/-- Every register read into a sample, one after another, makes it the register file. -/
theorem RegFile.set_every (r q : RegFile) :
    ((List.range registerCount).foldl (fun t n => t.set (BitVec.ofNat 3 n) (r.get (BitVec.ofNat 3 n))) q) = r := by
  simp only [registerCount, List.range, List.range.loop, List.foldl]
  simp [RegFile.set, RegFile.get]

/-- A mode row that answers a next state found a scanline waiting for its dispatch. -/
theorem dispatchLine_next_cases {m : DisplayMode} {s t : State} (h : dispatchLine m s = .next t) :
    ∃ task, s.render = some task ∧ task.phase = .dispatch ∧
      ((task.granularity = .byByte ∧ t = s.setRender (some (enterPlane m task))) ∨
       (task.granularity = .whole ∧
        t = drawnAs s task (scanlineIn m s.params.spriteYBias task.index task.sample s.memRead s.status))) := by
  unfold dispatchLine at h
  split at h
  · simp at h
  · rename_i task ht
    refine ⟨task, ht, ?_⟩
    split at h
    · rename_i hp
      refine ⟨hp, ?_⟩
      split at h
      · rename_i hg; exact .inl ⟨hg, by simpa using h.symm⟩
      · rename_i hg; exact .inr ⟨hg, by simpa [drawnAs, State.setRender, State.setStatus] using h.symm⟩
    · simp at h

end Sys2Proof.Machine
end

