-- ==== Sys2Proof/Tests/Slice0.lean ====
section
/-! SUPPORT. The model's own tests, with their expected results from the spec's examples and test vectors, and the
witnesses: for each statement with hypotheses, states and operands that meet them. -/

namespace Sys2Proof.Tests

open Sys2Proof Sys2Proof.Machine

/-- The next state that exec answers, if it answers one. -/
def after (i : Instr) (s : State) : Option State :=
  match exec i s with
  | .next t => some t
  | .fault _ => none
  | .refused _ => none

/-- The reset state in Read mode (RESET_MODE is a free value, R196). -/
def readMode : State := { State.reset with mode := .read }

/-- Bytes stored from an address on. -/
def poke (a : Nat) (bytes : List Byte) (m : Memory) : Memory :=
  bytes.zipIdx.foldl (fun m p => Memory.write (.fill 0x00) m (a + p.2) p.1) m

/-- A row as the spec's vectors write it: (colour, length). -/
def runs (row : Row) : List (Nat × Nat) :=
  row.foldr (fun c acc =>
    match acc with
    | (d, n) :: l => if c.toNat = d then (d, n + 1) :: l else (c.toNat, 1) :: (d, n) :: l
    | [] => [(c.toNat, 1)]) []

/-- The reset state with registers and VRAM, zero where nothing is listed: "VRAM zero" in the spec's vectors. -/
def vdp (r : RegFile) (m : Memory) : State :=
  { State.reset with regs := r, vram := m, params := { Params.decided with vramInit := .fill 0x00 } }

/-- The row and the status register after a LINE. -/
def line (index : Nat) (s : State) : Option (List (Nat × Nat) × Byte) :=
  (after (.line index) s).bind fun t => t.lineOut.map fun p => (runs p.2, t.status)

/-- The row and the status register after a mode row has drawn scanline `index`. -/
def drawn (i : Instr) (index : Nat) (s : State) : Option (List (Nat × Nat) × Byte) :=
  let task : LineTask := { index := index, sample := s.regs, granularity := .whole, phase := .dispatch, row := [] }
  (after i { s with render := some task }).bind fun t => t.render.map fun task => (runs task.row, t.status)

/-! ## Well-formedness -/

/-- "requires 0 <= index <= 191" (R111): the one check, at both sides of its bound. -/
theorem test_wf_refuses_scanline_192 : (Instr.line 192).wf = false ∧ (Instr.line 191).wf = true := by decide

theorem test_step_refuses_scanline_192 :
    step { State.reset with trace := [.op (.renderScanline 192)] } = .refused (.scanlineOutOfRange 192) := rfl

/-! ## Decoding: words written out from R60, R62, R64, R68 -/

theorem test_decode_ports :
    decode (.access false (.dataWrite 0xFF 0)) = .ok (.wd 0xFF 0) ∧
    decode (.access true (.dataRead 0)) = .ok (.rd 0) ∧
    decode (.access true .commandRead) = .ok .rs ∧
    decode (.access false (.commandWrite 0xFF 0)) = .ok (.wc1 0xFF 0) := by decide

/-- Classes 00, 01, 10, 11 with bits 5:0 = 110101. -/
theorem test_decode_second_bytes :
    decode (.access true (.commandWrite 0b00110101 0)) = .ok (.setrd 0b110101 0) ∧
    decode (.access true (.commandWrite 0b01110101 0)) = .ok (.setwr 0b110101 0) ∧
    decode (.access true (.commandWrite 0b10110101 0)) = .ok (.regw 0b101 0b110 0) ∧
    decode (.access true (.commandWrite 0b11110101 0)) = .ok (.cmdinv 0b110101 0) := by decide

theorem test_decode_entry_points :
    decode (.access false .isInterruptPending) = .ok .intp ∧
    decode (.access false .clearInterrupt) = .ok .clrint ∧
    decode (.access true (.renderFrame 7)) = .ok (.frame 7) ∧
    decode (.access true (.renderScanline 191)) = .ok (.line 191) ∧
    decode (.access true .reset) = .ok .reset := by decide

/-- The table of R68, with every bit that it does not name set. -/
theorem test_decode_mode_codes :
    decode (.modeWord 0b1011111111111111) = .ok .modeBlank ∧
    decode (.modeWord 0b1110011111111101) = .ok .modeG1 ∧
    decode (.modeWord 0b1110011111111111) = .ok .modeG2 ∧
    decode (.modeWord 0b1110111111111101) = .ok .modeMc ∧
    decode (.modeWord 0b1111011111111101) = .ok .modeTx ∧
    decode (.modeWord 0b1110111111111111) = .ok .modeInvalidM2M3 ∧
    decode (.modeWord 0b1111011111111111) = .ok .modeInvalidM1M3 ∧
    decode (.modeWord 0b1111111111111101) = .ok .modeInvalidM1M2 ∧
    decode (.modeWord 0b1111111111111111) = .ok .modeInvalidAll := by decide

/-- 0x80 | r and 0xB8 | r write the same register (R64). -/
theorem test_decode_ignored_bits :
    decodeTableWord 8 0x87 = some (.regw 7 0 0) ∧ decodeTableWord 8 0xBF = some (.regw 7 7 0) := by decide

/-- A placed word is run by the next step. -/
theorem test_fetch_word :
    step (State.reset.withFetchWord 8 0xBF) = exec (.regw 7 7 0) (State.reset.setLatched true) ∧
    (∃ t, step (State.reset.withFetchWord 16 0x5000) = .next t) := ⟨rfl, _, rfl⟩

/-! ## The port operations (40_port_protocol.md) -/

/-- R90: `mode = Write`, `address = 0x3FFF`, `WD 0x5A`. -/
theorem test_wd_wraps_at_the_top :
    (after (.wd 0x5A 0) { State.reset with mode := .write, address := 0x3FFF, latched := true }).map
      (fun t => (t.vram, t.address, t.latched, t.diags)) = some ([(0x3FFF, 0x5A)], 0x0000, false, []) := by decide

/-- V-RST-2: a write in Read mode raises its diagnostic and is performed. -/
theorem test_wd_in_read_mode :
    (after (.wd 0x01 0) readMode).map (fun t => (t.vram, t.address, t.mode, t.diags)) =
      some ([(0, 0x01)], 1, .write, [.writeInReadMode 0 0x01]) := by decide

/-- R97: `mode = Read`, `address = 0x0034`, `VRAM[0x0034] = 0x77`. -/
theorem test_rd_returns_the_byte :
    (after (.rd 0) { readMode with address := 0x0034, vram := [(0x34, 0x77)] }).map
      (fun t => (t.portOut, t.address, t.diags)) = some (.byte 0x77, 0x0035, []) := by decide

/-- R97: in Write mode 0xFF, and the address is unchanged. -/
theorem test_rd_in_write_mode :
    (after (.rd 0) { State.reset with address := 0x0034, mode := .write, latched := true, vram := [(0x34, 0x77)] }).map
      (fun t => (t.portOut, t.address, t.mode, t.latched, t.diags)) =
      some (.byte 0xFF, 0x0034, .read, false, [.readInWriteMode 0x0034]) := by decide

/-- R98: `status = 0xE4`. -/
theorem test_rs_clears :
    (after .rs { State.reset with status := 0xE4, latched := true }).map (fun t => (t.portOut, t.status, t.latched)) =
      some (.byte 0xE4, 0x00, false) := by decide

/-- R92: `address = 0x1FAB`, `WC 0x12`. -/
theorem test_wc1_replaces_the_low_byte :
    (after (.wc1 0x12 0) { State.reset with address := 0x1FAB }).map (fun t => (t.address, t.latchByte, t.latched)) =
      some (0x1F12, 0x12, true) := by decide

/-- R93: "`WriteCommand(0x34); WriteCommand(0x00)` yields `mode=Read, address=0x0034`". -/
theorem test_setrd :
    (after (.setrd 0x00 0) { State.reset with address := 0x3F34, latchByte := 0x34, mode := .write, latched := true }).map
      (fun t => (t.address, t.mode, t.latched)) = some (0x0034, .read, false) := by decide

/-- R41: at VRAM_SIZE 4096 the address is reduced. -/
theorem test_setrd_reduces :
    (after (.setrd 0x1F 0)
      { State.reset with params := { Params.decided with vramSize := .k4 }, latchByte := 0xFF, latched := true }).map
      (fun t => t.address) = some 0x0FFF := by decide

/-- R94: `WC 0xFF`, `WC 0x7F`. -/
theorem test_setwr :
    (after (.setwr 0x3F 0) { State.reset with address := 0x00FF, latchByte := 0xFF, latched := true }).map
      (fun t => (t.address, t.mode, t.latched)) = some (0x3FFF, .write, false) := by decide

/-- R95: `WC 0xE2`, `WC 0x81`: no diagnostic. -/
theorem test_regw :
    (after (.regw 1 0 0) { State.reset with latchByte := 0xE2, latched := true }).map
      (fun t => (t.regs.r1, t.regs.r0, t.latched, t.diags)) = some (0xE2, 0x00, false, []) := by decide

/-- R95: `WC 0xFF`, `WC 0x82`: stored verbatim, Diag.ReservedBits(2, 0xFF). -/
theorem test_regw_reserved_bits :
    (after (.regw 2 0 0) { State.reset with latchByte := 0xFF, latched := true }).map
      (fun t => (t.regs.r2, t.diags)) = some (0xFF, [.reservedBits 2 0xFF]) := by decide

/-- R96: `address = 0x1F00`, `WC 0x55`, `WC 0xC0`. -/
theorem test_cmdinv :
    (after (.cmdinv 0x00 0) { readMode with address := 0x1F55, latchByte := 0x55, latched := true }).map
      (fun t => (t.address, t.mode, t.latched, t.diags)) =
      some (0x1F55, .read, false, [.invalidCommand 0x55 0xC0]) := by decide

/-! ## Interrupt and reset -/

/-- R180: `status = 0x80`, `R[1] = 0xE0`: true; `R[1] = 0xC0`: false. -/
theorem test_intp :
    (after .intp { State.reset with status := 0x80, regs := ⟨0, 0xE0, 0, 0, 0, 0, 0, 0⟩ }).map (·.portOut) =
      some (.bool true) ∧
    (after .intp { State.reset with status := 0x80, regs := ⟨0, 0xC0, 0, 0, 0, 0, 0, 0⟩ }).map (·.portOut) =
      some (.bool false) := by decide

/-- R181: `status = 0xE4`: after CLRINT 0x64. -/
theorem test_clrint : (after .clrint { State.reset with status := 0xE4 }).map (·.status) = some 0x64 := by decide

/-- V-RST-1: from the end state of P3; VRAM unchanged. -/
theorem test_reset :
    (after .reset { State.reset with
      regs := ⟨0x00, 0xE0, 0x06, 0x80, 0x00, 0x36, 0x07, 0x01⟩, status := 0x64, address := 0x1BE0, latched := true,
      vram := [(0x1B00, 0x1F)] }).map (fun t => (t.regs, t.status, t.address, t.latched, t.vram)) =
      some (⟨0, 0, 0, 0, 0, 0, 0, 0⟩, 0x00, 0x0000, false, [(0x1B00, 0x1F)]) := by rfl

/-! ## Rendering -/

/-- R110: `R[1] = 0x00`, `R[7] = 0x07`: the surface is code 7, status 0x80. -/
theorem test_frame_blank :
    (after (.frame 0) (vdp ⟨0, 0, 0, 0, 0, 0, 0, 0x07⟩ [])).map
      (fun t => (t.surface.length, t.surface.all (fun row => runs row = [(7, 256)]), t.status)) =
      some (192, true, 0x80) := by decide +kernel

/-- R111: with the same state, LINE 0 leaves the status register, LINE 191 sets F. -/
theorem test_line_blank :
    line 0 (vdp ⟨0, 0, 0, 0, 0, 0, 0, 0x07⟩ []) = some ([(7, 256)], 0x00) ∧
    line 191 (vdp ⟨0, 0, 0, 0, 0, 0, 0, 0x07⟩ []) = some ([(7, 256)], 0x80) := by decide +kernel

/-- P3: six sprites on scanline 32, four drawn, an overlap, the fifth flagged. -/
theorem test_line_six_sprites :
    line 32 (vdp ⟨0x00, 0xE0, 0x06, 0x80, 0x00, 0x36, 0x07, 0x01⟩
      (poke 0x3800 (List.replicate 8 0xFF) (poke 0x1B00
        [0x1F, 0x00, 0x00, 0x02, 0x1F, 0x04, 0x00, 0x03, 0x1F, 0x28, 0x00, 0x04, 0x1F, 0x50, 0x00, 0x05,
          0x1F, 0x78, 0x00, 0x06, 0x1F, 0xA0, 0x00, 0x07, 0xD0] []))) =
      some ([(2, 8), (3, 4), (1, 28), (4, 8), (1, 32), (5, 8), (1, 168)], 0x64) := by decide +kernel

/-- V-SP-10 (b): 16 by 16 magnified, the name rounded to a multiple of 4. -/
theorem test_line_big_sprite :
    line 47 (vdp ⟨0x00, 0xE3, 0x06, 0x80, 0x00, 0x36, 0x07, 0x01⟩
      (poke 0x382F [0xFF, 0x03] (poke 0x383F [0x81] (poke 0x1B00 [0x0F, 0x0A, 0x05, 0x0E, 0xD0] [])))) =
      some ([(1, 10), (14, 18), (1, 12), (14, 2), (1, 214)], 0x00) := by decide +kernel

/-- R116: `r[7] = 0xF4`. -/
theorem test_mode_blank :
    drawn .modeBlank 0 (vdp ⟨0, 0, 0, 0, 0, 0, 0, 0xF4⟩ []) = some ([(4, 256)], 0x00) ∧
    drawn .modeInvalidM1M3 0 (vdp ⟨0x02, 0xD0, 0, 0, 0, 0, 0, 0xF4⟩ []) = some ([(4, 256)], 0x00) := by
  decide +kernel

/-- V-G1-1: one cell. -/
theorem test_mode_g1 :
    drawn .modeG1 0 (vdp ⟨0x00, 0xE0, 0x06, 0x80, 0x00, 0x36, 0x07, 0x04⟩
      [(0x0208, 0xA5), (0x0209, 0x3C), (0x1800, 0x41), (0x1B00, 0xD0), (0x2008, 0xF0)]) =
      some ([(15, 1), (4, 1), (15, 1), (4, 2), (15, 1), (4, 1), (15, 1), (4, 248)], 0x00) := by decide +kernel

/-- V-G2-1, LINE 67: the tables of third 1. -/
theorem test_mode_g2 :
    drawn .modeG2 67 (vdp ⟨0x02, 0xC0, 0x06, 0xFF, 0x03, 0x36, 0x07, 0x01⟩
      [(0x0813, 0xF0), (0x1900, 0x02), (0x1B00, 0xD0), (0x2813, 0x6B)]) =
      some ([(6, 4), (11, 4), (1, 248)], 0x00) := by decide +kernel

/-- V-MC-1, LINE 44: byte 3 of the glyph. -/
theorem test_mode_mc :
    drawn .modeMc 44 (vdp ⟨0x00, 0xC8, 0x06, 0x00, 0x00, 0x36, 0x07, 0x01⟩
      [(0x0082, 0x33), (0x0083, 0x2E), (0x18A0, 0x10), (0x1B00, 0xD0)]) =
      some ([(2, 4), (14, 4), (1, 248)], 0x00) := by decide +kernel

/-- P4, row 0: the first two cells and the last one, between the margins. -/
theorem test_mode_tx :
    drawn .modeTx 0 (vdp ⟨0x00, 0xD0, 0x02, 0x00, 0x00, 0x00, 0x00, 0xF4⟩
      [(0x0008, 0xFF), (0x0010, 0xA8), (0x0800, 0x01), (0x0801, 0x02), (0x0827, 0x01)]) =
      some ([(4, 8), (15, 7), (4, 1), (15, 1), (4, 1), (15, 1), (4, 223), (15, 6), (4, 8)], 0x00) := by
  decide +kernel

/-! ## Witnesses -/

/-- A validator whose one category needs a gap of 5 with the display disabled, in either window. -/
def strict (p : Policy) : ValidatorParams where
  policy := p
  writeDataCategory := 3
  writeCommandCategory := 3
  readDataCategory := 3
  minGap := [(⟨3, false, false, .active⟩, 5), (⟨3, false, false, .blanking⟩, 5)]

/-- A run with that validator, in Read mode, whose latest access was at 10. -/
def timedState (p : Policy) : State :=
  { readMode with
    params := { Params.decided with validator := .present (strict p) }
    timing := { last := [(3, 10)], epoch := none } }

theorem required_five (p : Policy) (e : Nat) : (timedState p).requiredGap (strict p) 3 e = 5 := by
  unfold State.requiredGap
  generalize Config.windowOf (timedState p).timing.epoch e = w
  cases p <;> cases w <;> decide +kernel

theorem gap_of_timedState (p : Policy) (e : Nat) : (timedState p).accessGap 3 e = e - 10 := rfl

/-- Two accesses 4 ticks apart, for the statements about Warn, Abort and Drop; `elapsed` 9 would decrease. -/
theorem witness_tooSoon (p : Policy) :
    TooSoon (strict p) .readData 14 (timedState p) ∧ TooSoon (strict p) .writeData 10 (timedState p) ∧
    TooSoon (strict p) .writeCommand 14 (timedState p) ∧ 9 < (timedState p).timing.latest ∧
    (timedState p).vramWf = true ∧ (timedState p).params.validator = .present (strict p) := by
  have h : ∀ op, categoryOf (strict p) op = 3 := by intro op; cases op <;> rfl
  refine ⟨⟨rfl, ?_, ?_⟩, ⟨rfl, ?_, ?_⟩, ⟨rfl, ?_, ?_⟩, ?_, rfl, rfl⟩ <;>
    first
    | (rw [h, required_five, gap_of_timedState]; decide)
    | (cases p <;> decide)

/-- WarnPolicyCountsOneViolation in Write mode. -/
theorem witness_tooSoon_write_mode :
    TooSoon (strict .warn) .readData 14 ((timedState .warn).setMode .write) ∧
    ((timedState .warn).setMode .write).mode = .write ∧ (timedState .warn).mode = .read :=
  ⟨(witness_tooSoon .warn).1, rfl, rfl⟩

/-- RecordedTimeIsThatOfTheLatestAccess: an access dropped, one performed, an operation that is not timed, a recorded
time. -/
theorem witness_recorded_time :
    (timedState .warn).params.validator = .present (strict .warn) ∧ timedOf .rs = none ∧
    (∃ t, exec (.rd 15) (timedState .drop) = .next t) ∧ (∃ t, exec .rs (timedState .warn) = .next t) ∧
    (timedState .warn).timing.last.lookup 3 = some 10 ∧ (timedState .warn).timing.last.lookup 4 = none := by
  refine ⟨rfl, rfl, ⟨_, timed_of_passes (.inr (.inl ⟨strict .drop, rfl, by decide, ?_, rfl⟩))⟩, ⟨_, rfl⟩,
    by decide, by decide⟩
  show (timedState .drop).requiredGap (strict .drop) 3 15 ≤ (timedState .drop).accessGap 3 15
  rw [required_five, gap_of_timedState]

/-- The gated instructions with their `elapsed`, for the same statements. -/
theorem witness_timedOf :
    timedOf (.rd 14) = some (.readData, 14) ∧ timedOf (.wd 1 14) = some (.writeData, 14) ∧
    timedOf (.regw 1 0 14) = some (.writeCommand, 14) := by decide

/-- The three ways through the gate: validator absent, a gap of exactly 5, and a gap of 4 under Warn. -/
theorem witness_passesGate (op : TimedOp) :
    PassesGate op 0 State.reset State.reset ∧
    PassesGate op 15 (timedState .abort) ((timedState .abort).recordAccess 3 15) ∧
    (∃ s1, PassesGate op 14 (timedState .warn) s1) ∧ State.reset.vramWf = true := by
  have h : ∀ p, categoryOf (strict p) op = 3 := by intro p; cases op <;> rfl
  refine ⟨.inl ⟨rfl, rfl⟩, .inr (.inl ⟨strict .abort, rfl, by decide, ?_, by rw [h]⟩), ?_, rfl⟩
  · rw [h, required_five, gap_of_timedState]
  · refine ⟨_, .inr (.inr ⟨strict .warn, ⟨rfl, by decide, ?_⟩, rfl, rfl⟩)⟩
    rw [h, required_five, gap_of_timedState]; decide

/-- ReadData's two branches. -/
theorem witness_modes : readMode.mode = .read ∧ (readMode.setMode .write).mode = .write := by decide

/-- Command bytes of each class, at both ends. -/
theorem witness_classes :
    (0x00 : Byte) &&& 0xC0 = 0x00 ∧ (0x3F : Byte) &&& 0xC0 = 0x00 ∧ (0x40 : Byte) &&& 0xC0 = 0x40 ∧
    (0x7F : Byte) &&& 0xC0 = 0x40 ∧ (0x80 : Byte) &&& 0xC0 = 0x80 ∧ (0xBF : Byte) &&& 0xC0 = 0x80 ∧
    (0xC0 : Byte) &&& 0xC0 = 0xC0 ∧ (0xFF : Byte) &&& 0xC0 = 0xC0 := by decide

/-- DISP and the mode code of a register file. -/
def modeBits (r : RegFile) : Bool × Bool × Bool × Bool :=
  (r.r1.getLsbD 6, r.r1.getLsbD 4, r.r1.getLsbD 3, r.r0.getLsbD 1)

/-- A register file for each mode code. -/
theorem witness_mode_codes :
    modeBits ⟨0x02, 0xBF, 0, 0, 0, 0, 0, 0⟩ = (false, true, true, true) ∧
    modeBits ⟨0x00, 0x40, 0, 0, 0, 0, 0, 0⟩ = (true, false, false, false) ∧
    modeBits ⟨0x02, 0x40, 0, 0, 0, 0, 0, 0⟩ = (true, false, false, true) ∧
    modeBits ⟨0x00, 0x48, 0, 0, 0, 0, 0, 0⟩ = (true, false, true, false) ∧
    modeBits ⟨0x00, 0x50, 0, 0, 0, 0, 0, 0⟩ = (true, true, false, false) ∧
    modeBits ⟨0x02, 0x48, 0, 0, 0, 0, 0, 0⟩ = (true, false, true, true) ∧
    modeBits ⟨0x02, 0x50, 0, 0, 0, 0, 0, 0⟩ = (true, true, false, true) ∧
    modeBits ⟨0x00, 0x58, 0, 0, 0, 0, 0, 0⟩ = (true, true, true, false) ∧
    modeBits ⟨0x02, 0x58, 0, 0, 0, 0, 0, 0⟩ = (true, true, true, true) := by decide

/-- A scanline in progress. -/
def task (g : Granularity) (p : LinePhase) (row : Row) : LineTask :=
  { index := 191, sample := State.reset.regs, granularity := g, phase := p, row := row }

/-- A state with a scanline in progress and a trace. -/
def busy (t : LineTask) (trace : List Event) : State := { State.reset with render := some t, trace := trace }

/-- StepRunsTheDecodedInstruction: an access that decodes, and a mode word. -/
theorem witness_decodes :
    decode (.access State.reset.latched (.dataRead 0)) = .ok (.rd 0) ∧
    decode (.modeWord ((task .whole .dispatch []).sample.r1 ++ (task .whole .dispatch []).sample.r0)) =
      .ok .modeBlank ∧
    (busy (task .whole .dispatch []) [.renderNext]).render = some (task .whole .dispatch []) ∧
    (task .whole .dispatch []).phase = .dispatch := by decide

/-- DrawnLineIsReturned and EveryStepKeepsTheInvariant: a scanline that is drawn, with the invariant. -/
theorem witness_drawn :
    Inv (busy (task .byByte .drawn (List.replicate 256 0)) [.renderNext]) ∧
    (∃ t, step (busy (task .byByte .drawn (List.replicate 256 0)) [.renderNext]) = .next t) := by
  refine ⟨⟨rfl, rfl, by decide, by decide, rfl, ?_, fun _ h => (nomatch h), .inl rfl⟩, _, rfl⟩
  intro t h
  simp only [busy, Option.some.injEq] at h
  subst h
  exact ⟨by decide, List.length_replicate⟩

/-- The same for a scanline in the sprite walk, with the bytes of an entry half read. -/
theorem witness_sprite_phase :
    PhaseInv (task .byByte (.sprite 31 4 noneOccupied [0x10, 0x20]) (List.replicate 256 0)) := by
  exact ⟨by decide, by decide, by decide, by decide, by simp, length_noneOccupied, List.length_replicate⟩

/-- LineStartTakesTheRegisterSample, PlaneStepReadsItsNextByte, SpriteStepReadsItsNextByte and
RenderReadSeesTheLatestWrite: scanlines in each phase that they speak of, at both ends of its range. -/
theorem witness_phases :
    (∀ p row, (busy (task .byByte p row) [.renderNext]).render = some (task .byByte p row) ∧
      (busy (task .byByte p row) [.renderNext]).trace = .renderNext :: [] ∧ (task .byByte p row).phase = p ∧
      (task .byByte p row).index < 192) ∧
    PhaseInv (task .byByte (.sampling 0) []) ∧ PhaseInv (task .byByte (.sampling 7) []) ∧
    PhaseInv (task .byByte (.plane .graphicsI 0 []) []) ∧
    PhaseInv (task .byByte (.plane .graphicsII 31 [0x10, 0x20]) (List.replicate 248 0)) ∧
    PhaseInv (task .byByte (.plane .multicolor 31 [0x10]) (List.replicate 248 0)) ∧
    PhaseInv (task .byByte (.plane .text 39 [0x10]) (List.replicate 242 0)) ∧
    PhaseInv (task .byByte (.sprite 31 4 noneOccupied []) (List.replicate 256 0)) ∧
    PhaseInv (task .byByte (.overlay 31 4 noneOccupied 15 [255]) (List.replicate 256 0)) := by
  refine ⟨fun p row => ⟨rfl, rfl, rfl, by simp [task]⟩, show 0 < registerCount by decide,
    show 7 < registerCount by decide, ⟨by decide, by decide, by decide⟩, ?_, ?_, ?_, ?_, ?_⟩
  · exact ⟨by decide, by decide, List.length_replicate⟩
  · exact ⟨by decide, by decide, List.length_replicate⟩
  · exact ⟨by decide, by decide, List.length_replicate⟩
  · exact ⟨by decide, by decide, by simp, by decide, by simp, length_noneOccupied, List.length_replicate⟩
  · exact ⟨by decide, by decide, by decide, by decide, by simp, by simp [activeWidth], length_noneOccupied,
      List.length_replicate⟩

/-- RenderReadSeesTheLatestWrite: the premises on the port side, and the second byte of a write to R[7]. -/
theorem witness_port_write :
    (busy (task .byByte (.sampling 7) []) []).params.validator = .absent ∧
    (busy (task .byByte (.sampling 7) []) []).vramWf = true ∧
    ((busy (task .byByte (.sampling 7) []) []).setLatched true).latched = true ∧ (0x87 : Byte) &&& 0xC0 = 0x80 := by
  decide

/-- R52, R53 (a): R[0] was read before a register write and R[1] is read after it. -/
theorem test_sample_reads_one_register :
    (match step { busy (task .byByte (.sampling 1) []) [.renderNext] with regs := ⟨0x02, 0xC0, 0, 0, 0, 0, 0, 0⟩ } with
      | .next t => t.render.map fun k => (k.sample.r0, k.sample.r1, k.phase)
      | .fault _ => none
      | .refused _ => none) = some (0x00, 0xC0, .sampling 2) := by decide

/-- ModeRowsNeedAScanlineAtDispatch, with no scanline and with one past its dispatch; and the mode rows. -/
theorem witness_not_at_dispatch :
    State.reset.render = none ∧ (task .whole .drawn []).phase ≠ .dispatch ∧ Instr.modeTx ∈ modeRows ∧
    (∀ t, (busy (task .whole .drawn []) []).render = some t → t.phase ≠ .dispatch) := by
  refine ⟨rfl, by decide, by decide, fun t h => ?_⟩
  simp only [busy, Option.some.injEq] at h
  subst h
  decide

/-- Render operations: no other in progress, and another in progress; the bounds of the index; a blank mode. -/
theorem witness_render_domain :
    State.reset.render = none ∧ (busy (task .whole .dispatch []) []).render ≠ none ∧ (0 : Nat) < 192 ∧
    (191 : Nat) < 192 ∧ (192 : Nat) ≤ 192 ∧ State.reset.regs.modeOf = .blank ∧
    State.reset.params.validator = .absent ∧ (timedState .warn).params.validator = .present (strict .warn) := by
  refine ⟨rfl, Option.some_ne_none _, by decide, by decide, by decide, by decide, rfl, rfl⟩

/-- RenderFrame and RenderScanline answer next states (FrameFlagIsSetByTheLastScanline, the agreement statements). -/
theorem witness_render_next :
    (∃ t, exec (.frame 0) State.reset = .next t) ∧ (∃ t, exec (.line 191) State.reset = .next t) ∧
    (∃ t, exec (.line 190) State.reset = .next t) := ⟨⟨_, rfl⟩, ⟨_, rfl⟩, ⟨_, rfl⟩⟩

/-- The bounds of the pixel statements. -/
theorem witness_pixel_bounds :
    (31 : Nat) < 32 ∧ (7 : Nat) < 8 ∧ (191 : Nat) < 192 ∧ (39 : Nat) < 40 ∧ (5 : Nat) < 6 ∧ (255 : Nat) < 256 ∧
    (List.replicate 256 (0 : Colour)).length = 256 := by
  refine ⟨by decide, by decide, by decide, by decide, by decide, by decide, List.length_replicate⟩

/-- A VRAM that reads the same byte everywhere. -/
def constant (b : Byte) : Nat → Byte := fun _ => b

/-- SentinelHidesLaterEntries, and the cases of FifthSpriteIsRecordedOnce: 32 sprites on scanline 18, and none. -/
theorem witness_sprites :
    constant 0xD0 (State.reset.regs.attributeAddress 3 0) = 0xD0 ∧
    5 ≤ (spritesOn 1 18 State.reset.regs (constant 0x11)).length ∧
    (spritesOn 1 18 State.reset.regs (constant 0xD0)).length < 5 ∧ statusS5 0x9F = false ∧ statusS5 0x40 = true := by
  decide

/-- A VRAM in which the entries below `k` lie on scanline 18 and entry `k` is the sentinel. -/
def entries (k : Nat) : Nat → Byte := fun a => if a < 4 * k then 0x11 else 0xD0

/-- FifthSpriteIsRecordedOnce at its bound: exactly four and exactly five sprites on the scanline. -/
theorem witness_four_and_five_sprites :
    (spritesOn 1 18 State.reset.regs (entries 4)).length = 4 ∧
    (spritesOn 1 18 State.reset.regs (entries 5)).length = 5 := by decide

/-- OpaqueColumnsAreTheSourcePixels: an entry of colour 0 and one of another colour. -/
theorem witness_sprite_colours :
    (constant 0x10 (State.reset.regs.r5.toNat % 128 * 0x80 + 4 * 31 + 3)).extractLsb' 0 4 = 0 ∧
    (constant 0x11 (State.reset.regs.r5.toNat % 128 * 0x80 + 4 * 31 + 3)).extractLsb' 0 4 ≠ 0 := by decide

/-- CoincidenceIsTwoOpaquePixelsInOneColumn: the right-hand side is met by two sprites in the same place. -/
theorem witness_coincidence :
    0 < 1 ∧ 1 < ((spritesOn 1 18 State.reset.regs (constant 0x11)).take 4).length ∧
    20 ∈ opaqueColumns 1 18 State.reset.regs (constant 0x11)
      (((spritesOn 1 18 State.reset.regs (constant 0x11)).take 4).getD 0 0) ∧
    20 ∈ opaqueColumns 1 18 State.reset.regs (constant 0x11)
      (((spritesOn 1 18 State.reset.regs (constant 0x11)).take 4).getD 1 0) := by decide

/-- A state in Read mode with the F and S5 flags, IE = 1, the second phase, and one access to come. -/
def flagged (ev : Event) : State :=
  { readMode with
    status := 0xC4, latched := true, latchByte := 0x60, regs := ⟨0, 0x20, 0, 0, 0, 0, 0, 0⟩, trace := [ev] }

/-- The whole-machine rules about the status register: a step by each of the three kinds of event. -/
theorem witness_status_steps :
    (∃ t, step (flagged (.op .commandRead)) = .next t) ∧ (∃ t, step (flagged (.op .clearInterrupt)) = .next t) ∧
    (∃ t, step (flagged (.op .reset)) = .next t) ∧ (∃ t, step (flagged (.op (.dataWrite 1 0))) = .next t) :=
  ⟨⟨_, rfl⟩, ⟨_, rfl⟩, ⟨_, rfl⟩, ⟨_, rfl⟩⟩

/-- RegistersChangeOnlyByRegisterWriteOrReset: a step that changes R[1]. -/
theorem witness_register_step :
    ∃ t, step (flagged (.op (.commandWrite 0x81 0))) = .next t ∧
      t.regs ≠ (flagged (.op (.commandWrite 0x81 0))).regs := ⟨_, rfl, by decide⟩

/-- VramChangesOnlyByWriteData: a step that changes VRAM. -/
theorem witness_vram_step :
    ∃ t, step (flagged (.op (.dataWrite 1 0))) = .next t ∧ t.vram ≠ (flagged (.op (.dataWrite 1 0))).vram :=
  ⟨_, rfl, by decide⟩

/-- InterruptRequestFallsOnlyByClearingFOrIE: ReadStatus lets a request fall. -/
theorem witness_request_falls :
    ∃ t, step (flagged (.op .commandRead)) = .next t ∧
      (flagged (.op .commandRead)).interruptPending = true ∧ t.interruptPending = false :=
  ⟨_, rfl, by decide, by decide⟩

/-- The statements about the events that leave the access state alone. -/
theorem witness_leaves_access_state :
    Event.leavesAccessState (.op .isInterruptPending) = true ∧ Event.leavesAccessState .renderNext = true ∧
    (∃ t, step (flagged (.op .isInterruptPending)) = .next t) ∧ (∃ t, step (flagged .renderNext) = .next t) :=
  ⟨rfl, rfl, ⟨_, rfl⟩, ⟨_, rfl⟩⟩

/-- TwoByteCommandLeavesItsFirstByteInAddress: both bytes of a register write. -/
theorem witness_two_bytes :
    ∃ t u, exec (.wc1 0x12 0) State.reset = .next t ∧
      decode (.access t.latched (.commandWrite 0x87 0)) = .ok (.regw 7 0 0) ∧ exec (.regw 7 0 0) t = .next u :=
  ⟨_, _, rfl, rfl, rfl⟩

/-- AccessBetweenTheBytesCancelsTheCommand: each of the three accesses after a first byte. -/
theorem witness_access_between :
    (∃ t, exec (.wd 1 0) (State.reset.setLatched true) = .next t) ∧
    (∃ t, exec (.rd 0) (State.reset.setLatched true) = .next t) ∧
    (∃ t, exec .rs (State.reset.setLatched true) = .next t) := ⟨⟨_, rfl⟩, ⟨_, rfl⟩, ⟨_, rfl⟩⟩

/-- NoOperationFaultsHangsOrIsRefused: a port operation beside a running scanline, and LINE with none running. -/
theorem witness_no_operation_refused :
    (Instr.rs).wf = true ∧ Instr.rs ∉ modeRows ∧ (Instr.line 191).wf = true ∧ Instr.line 191 ∉ modeRows := by decide

/-- Events of the real-time deployment as the next event of a trace. -/
theorem witness_traces :
    (flagged (.lineStart 191 .byByte)).trace = .lineStart 191 .byByte :: [] ∧
    (flagged (.lineStart 192 .whole)).trace = .lineStart 192 .whole :: [] ∧
    (flagged (.op (.renderScanline 192))).trace = .op (.renderScanline 192) :: [] ∧ State.reset.trace = [] ∧
    (busy (task .byByte .drawn []) [.renderNext]).trace = .renderNext :: [] := by decide

end Sys2Proof.Tests
end

/-! The step by its event: one equation for each event of the trace, and the inversion of `step` that every proof
about all steps goes through. -/

namespace Sys2Proof.Machine

/-- An operation of the trace that the decoder reads in the present latch phase is executed. -/
theorem step_of_op {s : State} {a : Access} {i : Instr} {rest : List Event} (h : s.trace = .op a :: rest)
    (hdecode : decodeAccess s.latched a = .ok i) : step s = exec i s.advance := by
  simp only [step, State.nextAction, State.fetchCode, h, decodeAction, decode, hdecode]

/-- An operation that the decoder rejects is refused. -/
theorem step_of_op_error {s : State} {a : Access} {e : Reject} {rest : List Event} (h : s.trace = .op a :: rest)
    (hdecode : decodeAccess s.latched a = .error e) : step s = .refused (refusalOf e) := by
  simp only [step, State.nextAction, State.fetchCode, h, decodeAction, decode, hdecode]

/-- The start of a scanline. -/
theorem step_of_lineStart {s : State} {index : Nat} {g : Granularity} {rest : List Event}
    (h : s.trace = .lineStart index g :: rest) : step s = startLine index g s.advance := by
  simp only [step, State.nextAction, State.fetchCode, h]

/-- The render agent has nothing to go on with. -/
theorem step_of_renderNext_idle {s : State} {rest : List Event} (h : s.trace = .renderNext :: rest)
    (hr : s.render = none) : step s = .next s.advance := by
  simp only [step, State.nextAction, State.fetchCode, h, hr]

/-- The mode row that the decoder reads from a register file's mode word dispatches to the mode of that register
file (R68, R113). -/
theorem exec_decodeMode (r : RegFile) (s : State) : exec (decodeMode r.modeWord) s = dispatchLine r.modeOf s := by
  have hDisp : r.modeWord.getLsbD 14 = r.displayEnabled := BitVec.getLsbD_append
  have hM1 : r.modeWord.getLsbD 12 = r.m1 := BitVec.getLsbD_append
  have hM2 : r.modeWord.getLsbD 11 = r.m2 := BitVec.getLsbD_append
  have hM3 : r.modeWord.getLsbD 1 = r.m3 := BitVec.getLsbD_append
  simp only [decodeMode, RegFile.modeOf, hDisp, hM1, hM2, hM3]
  cases r.displayEnabled <;> cases r.m1 <;> cases r.m2 <;> cases r.m3 <;> rfl

/-- A scanline that waits for its mode dispatch is dispatched by the mode of its register sample. -/
theorem step_of_renderNext_dispatch {s : State} {task : LineTask} {rest : List Event}
    (h : s.trace = .renderNext :: rest) (hr : s.render = some task) (hp : task.phase = .dispatch) :
    step s = dispatchLine task.sample.modeOf s.advance := by
  simp only [step, State.nextAction, State.fetchCode, h, hr, hp, if_true, decodeAction, decode, exec_decodeMode]

/-- Any other scanline in progress goes on with its next atomic action. -/
theorem step_of_renderNext_action {s : State} {task : LineTask} {rest : List Event}
    (h : s.trace = .renderNext :: rest) (hr : s.render = some task) (hp : task.phase ≠ .dispatch) :
    step s = .next (renderAction task s.advance) := by
  simp only [step, State.nextAction, State.fetchCode, h, hr, hp, if_false]

/-- What a step that answers `t` has done. -/
inductive StepTo (s t : State) : Prop
  | exhausted (htrace : s.trace = []) (ht : t = s.advance)
  | op (a : Access) (i : Instr) (rest : List Event) (htrace : s.trace = .op a :: rest)
      (hdecode : decodeAccess s.latched a = .ok i) (hexec : exec i s.advance = .next t)
  | start (index : Nat) (g : Granularity) (rest : List Event) (htrace : s.trace = .lineStart index g :: rest)
      (hindex : index < activeHeight) (ht : t = s.advance.setRender (some (newLine index g s.regs)))
  | noScanline (rest : List Event) (htrace : s.trace = .renderNext :: rest) (ht : t = s.advance)
  | dispatch (task : LineTask) (rest : List Event) (htrace : s.trace = .renderNext :: rest)
      (htask : s.render = some task) (hdisp : dispatchLine task.sample.modeOf s.advance = .next t)
  | action (task : LineTask) (rest : List Event) (htrace : s.trace = .renderNext :: rest)
      (htask : s.render = some task) (hphase : task.phase ≠ .dispatch) (ht : t = renderAction task s.advance)

theorem stepTo_of_step {s t : State} (h : step s = .next t) : StepTo s t := by
  cases htrace : s.trace with
  | nil =>
    refine .exhausted htrace ?_
    simpa [step, State.nextAction, State.fetchCode, htrace] using h.symm
  | cons ev rest =>
    cases ev with
    | op a =>
      cases hdecode : decodeAccess s.latched a with
      | ok i => exact .op a i rest htrace hdecode (step_of_op htrace hdecode ▸ h)
      | error e => simp [step_of_op_error htrace hdecode] at h
    | lineStart index g =>
      rw [step_of_lineStart htrace] at h
      obtain ⟨hindex, -, ht⟩ := startLine_next_cases h
      exact .start index g rest htrace hindex ht
    | renderNext =>
      cases htask : s.render with
      | none =>
        rw [step_of_renderNext_idle htrace htask] at h
        exact .noScanline rest htrace (by simpa using h.symm)
      | some task =>
        by_cases hp : task.phase = .dispatch
        · exact .dispatch task rest htrace htask (step_of_renderNext_dispatch htrace htask hp ▸ h)
        · rw [step_of_renderNext_action htrace htask hp] at h
          exact .action task rest htrace htask hp (by simpa using h.symm)

/-- What the gate does to a state, what a dropped access leaves and what a gated operation does keep a property: then
the operation keeps it, whatever the gate answers. -/
theorem timed_keeps {P : State → Prop} {op : TimedOp} {e : Nat} {dropped run : State → State} {s t : State}
    (h : timed op e dropped run s = .next t) (hs : P s) (hrecord : ∀ s c e, P s → P (s.recordAccess c e))
    (hraise : ∀ s d, P s → P (s.raise d)) (hdropped : ∀ s, P s → P (dropped s)) (hrun : ∀ s, P s → P (run s)) :
    P t := by
  obtain ⟨s1, hpass, rfl⟩ | ⟨s1, hdrop, rfl⟩ := timed_next_cases h
  · apply hrun
    obtain rfl | ⟨c, rfl⟩ | ⟨c, g, q, rfl⟩ := hpass.cases
    · exact hs
    · exact hrecord _ _ _ hs
    · exact hraise _ _ (hrecord _ _ _ hs)
  · obtain ⟨c, g, q, rfl⟩ := gate_drop_cases hdrop
    exact hdropped _ (hraise _ _ (hrecord _ _ _ hs))

end Sys2Proof.Machine

/-! How the status register changes outside of ReadStatus, ClearInterrupt and Reset (R21). -/

namespace Sys2Proof.Machine

/-- No flag is cleared on the way from `st` to `st'`, and FSN changes only where S5 is set (R21, R150). -/
structure StatusGrows (st st' : Byte) : Prop where
  frame : statusF st = true → statusF st' = true
  fifth : statusS5 st = true → statusS5 st' = true
  coincidence : statusC st = true → statusC st' = true
  index : statusFSN st' ≠ statusFSN st → statusS5 st = false ∧ statusS5 st' = true

theorem StatusGrows.refl (st : Byte) : StatusGrows st st := ⟨id, id, id, fun h => absurd rfl h⟩

theorem StatusGrows.trans {a b c : Byte} (hab : StatusGrows a b) (hbc : StatusGrows b c) : StatusGrows a c where
  frame h := hbc.frame (hab.frame h)
  fifth h := hbc.fifth (hab.fifth h)
  coincidence h := hbc.coincidence (hab.coincidence h)
  index h := by
    by_cases hb : statusFSN b = statusFSN a
    · obtain ⟨hb5, hc5⟩ := hbc.index (hb.symm ▸ h)
      exact ⟨Bool.eq_false_iff.mpr fun ha5 => by simp [hab.fifth ha5] at hb5, hc5⟩
    · obtain ⟨ha5, hb5⟩ := hab.index hb
      exact ⟨ha5, hbc.fifth hb5⟩

theorem statusGrows_setF (st : Byte) : StatusGrows st (setF st) := by
  obtain ⟨hF, h5, hC, hN⟩ := setF_fields st
  exact ⟨fun _ => hF, fun h => h5.trans h, fun h => hC.trans h, fun h => absurd hN h⟩

theorem statusGrows_setC (st : Byte) : StatusGrows st (setC st) := by
  obtain ⟨hC, hF, h5, hN⟩ := setC_fields st
  exact ⟨fun h => hF.trans h, fun h => h5.trans h, fun _ => hC, fun h => absurd hN h⟩

theorem statusGrows_recordFifth (n : Nat) (st : Byte) : StatusGrows st (recordFifth n st) := by
  cases hst : statusS5 st with
  | true => rw [recordFifth_of_set n hst]; exact .refl st
  | false =>
    obtain ⟨h5, -, hF, hC⟩ := recordFifth_fields n hst
    exact ⟨fun h => hF.trans h, fun _ => h5, fun h => hC.trans h, fun _ => ⟨hst, h5⟩⟩

theorem statusGrows_endLine (index : Nat) (st : Byte) : StatusGrows st (endLine index st) := by
  unfold endLine
  split
  · exact statusGrows_setF st
  · exact .refl st

theorem statusGrows_plot (colour : Colour) (dx : Nat) (cv : Canvas) :
    StatusGrows cv.status (plot colour dx cv).status := by
  obtain h | h := plot_status colour dx cv <;> rw [h]
  · exact .refl _
  · exact statusGrows_setC _

theorem statusGrows_spriteRow (bias : Int) (y : Nat) (r : RegFile) (rd : Nat → Byte) (row : Row) (st : Byte) :
    StatusGrows st (spriteRow bias y r rd row st).2 :=
  spriteWalk_keeps (P := fun cv => StatusGrows st cv.status)
    (fun colour dx cv h => h.trans (statusGrows_plot colour dx cv))
    (fun n cv h => h.trans (statusGrows_recordFifth n cv.status)) bias y r rd _ _ _ (.refl _)

theorem statusGrows_scanlineIn (m : DisplayMode) (bias : Int) (y : Nat) (r : RegFile) (rd : Nat → Byte) (st : Byte) :
    StatusGrows st (scanlineIn m bias y r rd st).2 := by
  cases m with
  | blank | text => exact .refl st
  | graphicsI | graphicsII | multicolor => exact statusGrows_spriteRow ..

theorem statusGrows_frameRows (bias : Int) (r : RegFile) (rd : Nat → Byte) :
    ∀ (ys : List Nat) (st : Byte), StatusGrows st (frameRows bias r rd ys st).2
  | [], _ => .refl _
  | _ :: ys, _ => (statusGrows_scanlineIn r.modeOf ..).trans (statusGrows_frameRows bias r rd ys _)

end Sys2Proof.Machine

/-! What one move of the render agent does to the state: it puts the scanline in progress elsewhere, in a place where a
scanline can stand, and lets the status register grow; or it ends the scanline. -/

namespace Sys2Proof.Machine

theorem length_graphics1Row (y : Nat) (r : RegFile) (rd : Nat → Byte) : (graphics1Row y r rd).length = activeWidth :=
  (length_flatMap_const (List.range 32) _ 8 fun _ _ => length_colouredCell ..).trans (by simp [activeWidth])

theorem length_graphics2Row (y : Nat) (r : RegFile) (rd : Nat → Byte) : (graphics2Row y r rd).length = activeWidth :=
  (length_flatMap_const (List.range 32) _ 8 fun _ _ => length_colouredCell ..).trans (by simp [activeWidth])

theorem length_multicolorRow (y : Nat) (r : RegFile) (rd : Nat → Byte) :
    (multicolorRow y r rd).length = activeWidth :=
  (length_flatMap_const (List.range 32) _ 8 fun _ _ => length_blockCell ..).trans (by simp [activeWidth])

theorem length_textRow (y : Nat) (r : RegFile) (rd : Nat → Byte) : (textRow y r rd).length = activeWidth := by
  have hcells := length_flatMap_const (List.range 40) (fun c =>
    textCell r (rd (glyphAddress r.patternTable (rd (r.nameAddress 40 y c)) (y % 8)))) 6 fun _ _ => length_textCell ..
  simp [textRow, hcells, activeWidth]

/-- Every row drawn is 256 codes long, in every mode (R112). -/
theorem length_scanlineIn (m : DisplayMode) (bias : Int) (y : Nat) (r : RegFile) (rd : Nat → Byte) (st : Byte) :
    (scanlineIn m bias y r rd st).1.length = activeWidth := by
  cases m with
  | blank => exact length_blankRow r
  | text => exact length_textRow y r rd
  | graphicsI => exact (length_spriteRow ..).trans (length_graphics1Row y r rd)
  | graphicsII => exact (length_spriteRow ..).trans (length_graphics2Row y r rd)
  | multicolor => exact (length_spriteRow ..).trans (length_multicolorRow y r rd)

theorem length_of_mem_frameRows (bias : Int) (r : RegFile) (rd : Nat → Byte) {row : Row} :
    ∀ (ys : List Nat) (st : Byte), row ∈ (frameRows bias r rd ys st).1 → row.length = activeWidth
  | [], _, h => by simp [frameRows] at h
  | y :: ys, st, h => by
    simp only [frameRows, List.mem_cons] at h
    obtain rfl | h := h
    · exact length_scanlineIn ..
    · exact length_of_mem_frameRows bias r rd ys _ h

/-- A cell whose bytes have all been read gives the pixels of one cell. -/
theorem length_cellPixels (m : DisplayMode) (r : RegFile) (got : List Byte) (hm : m ≠ .blank)
    (h : got.length = readsPerCell m) : (cellPixels m r got).length = cellWidth m := by
  cases m with
  | blank => exact absurd rfl hm
  | graphicsI | graphicsII =>
    obtain ⟨_, _, _, rfl⟩ := List.length_eq_three.mp h
    exact length_colouredCell ..
  | multicolor =>
    obtain ⟨_, _, rfl⟩ := List.length_eq_two.mp h
    exact length_blockCell ..
  | text =>
    obtain ⟨_, _, rfl⟩ := List.length_eq_two.mp h
    exact length_textCell ..

theorem phaseInv_newLine (index : Nat) (g : Granularity) (r : RegFile) : PhaseInv (newLine index g r) := by
  cases g with
  | whole => exact trivial
  | byByte => exact (by decide : 0 < registerCount)

theorem phaseInv_enterPlane (m : DisplayMode) (task : LineTask) : PhaseInv (enterPlane m task) := by
  cases m <;> simp [enterPlane, PhaseInv, cellsPerRow, readsPerCell, planeMargin]

/-- After the last cell of a plane. -/
theorem phaseInv_endPlane {m : DisplayMode} {task : LineTask} (hm : m ≠ .blank)
    (hrow : task.row.length = planeMargin m + cellsPerRow m * cellWidth m) : PhaseInv (endPlane m task) := by
  cases m with
  | blank => exact absurd rfl hm
  | text =>
    simp [endPlane, PhaseInv, hrow, planeMargin, cellsPerRow, cellWidth, activeWidth]
  | graphicsI | graphicsII | multicolor =>
    simp [endPlane, PhaseInv, hrow, planeMargin, cellsPerRow, cellWidth, activeWidth, spriteEntries]

/-- At the next entry, or after the last. -/
theorem phaseInv_of_afterEntry {task : LineTask} {n count : Nat} {occupied : List Bool}
    (hphase : task.phase = afterEntry n count occupied) (hcount : count ≤ spritesPerLine)
    (hoccupied : occupied.length = activeWidth) (hrow : task.row.length = activeWidth) : PhaseInv task := by
  unfold afterEntry at hphase
  split at hphase
  · simp_all [PhaseInv]
  · simpa [PhaseInv, hphase] using hrow

/-- At the pixels of an entry, or past it when it has none. -/
theorem phaseInv_of_beginOverlay {task : LineTask} {n count : Nat} {occupied : List Bool} {colour : Colour}
    {columns : List Nat} (hphase : task.phase = beginOverlay n count occupied colour columns) (hn : n < spriteEntries)
    (hpos : 1 ≤ count) (hcount : count ≤ spritesPerLine) (hcolour : colour ≠ 0)
    (hcolumns : ∀ dx ∈ columns, dx < activeWidth) (hoccupied : occupied.length = activeWidth)
    (hrow : task.row.length = activeWidth) : PhaseInv task := by
  cases columns with
  | nil => exact phaseInv_of_afterEntry hphase hcount hoccupied hrow
  | cons dx rest =>
    simp only [PhaseInv, hphase, beginOverlay]
    exact ⟨hn, hpos, hcount, hcolour, by simp, hcolumns, hoccupied, hrow⟩

/-- The render agent's scanline `task` has moved on to `task'`, still inside the scanline: nothing else of the state
has changed but the status register, which grows. -/
def MovesLine (task : LineTask) (s t : State) : Prop :=
  ∃ (task' : LineTask) (st : Byte), t = (s.setRender (some task')).setStatus st ∧ StatusGrows s.status st ∧
    task'.index = task.index ∧ (PhaseInv task → PhaseInv task')

theorem movesLine_setRender {task task' : LineTask} (s : State) (hindex : task'.index = task.index)
    (hphase : PhaseInv task → PhaseInv task') : MovesLine task s (s.setRender (some task')) :=
  ⟨task', s.status, rfl, .refl _, hindex, hphase⟩

/-- A mode row that answers a next state moves the scanline in progress on. -/
theorem movesLine_of_dispatchLine {m : DisplayMode} {s t : State} (h : dispatchLine m s = .next t) :
    ∃ task, s.render = some task ∧ MovesLine task s t := by
  obtain ⟨task, htask, -, ⟨-, rfl⟩ | ⟨-, rfl⟩⟩ := dispatchLine_next_cases h
  · refine ⟨task, htask, movesLine_setRender s ?_ fun _ => phaseInv_enterPlane m task⟩
    cases m <;> rfl
  · exact ⟨task, htask, _, _, rfl, statusGrows_scanlineIn .., rfl, fun _ => length_scanlineIn ..⟩

theorem movesLine_sampleAction {task : LineTask} (n : Nat) (s : State) : MovesLine task s (sampleAction n task s) := by
  refine movesLine_setRender s rfl fun _ => ?_
  by_cases hn : n + 1 < registerCount <;> simp [PhaseInv, hn]

theorem movesLine_planeAction {m : DisplayMode} {c : Nat} {got : List Byte} {task : LineTask}
    (hphase : task.phase = .plane m c got) (s : State) : MovesLine task s (planeAction m c got task s) := by
  unfold planeAction
  dsimp only
  generalize s.memRead _ = b
  split
  · rename_i hreads
    refine movesLine_setRender s rfl fun h => ?_
    simp only [PhaseInv, hphase] at h ⊢
    exact ⟨h.1, hreads, h.2.2⟩
  · rename_i hreads
    have hlast : PhaseInv task → m ≠ .blank ∧
        (task.row ++ cellPixels m task.sample (got ++ [b])).length = planeMargin m + (c + 1) * cellWidth m := by
      intro h
      simp only [PhaseInv, hphase] at h
      obtain ⟨hc, hgot, hrow⟩ := h
      have hm : m ≠ .blank := by rintro rfl; simp [cellsPerRow] at hc
      simp only [List.length_append, List.length_singleton] at hreads
      have hpixels := length_cellPixels m task.sample (got ++ [b]) hm (by simp; omega)
      refine ⟨hm, ?_⟩
      rw [List.length_append, hrow, hpixels, Nat.add_mul, Nat.one_mul, Nat.add_assoc]
    split
    · rename_i hc
      refine movesLine_setRender s rfl fun h => ?_
      obtain ⟨hm, hrow⟩ := hlast h
      refine ⟨hc, ?_, hrow⟩
      cases m <;> simp_all [readsPerCell]
    · rename_i hc
      refine movesLine_setRender s (by cases m <;> rfl) fun h => ?_
      obtain ⟨hm, hrow⟩ := hlast h
      have hcells : c + 1 = cellsPerRow m := by
        simp only [PhaseInv, hphase] at h
        omega
      exact phaseInv_endPlane hm (hcells ▸ hrow)

/-- The Y byte of an entry is read: every way on is a place where a scanline can stand. -/
theorem movesLine_spriteYAction {n count : Nat} {occupied : List Bool} {task : LineTask}
    (hphase : task.phase = .sprite n count occupied []) (s : State) :
    MovesLine task s (spriteYAction n count occupied task s) := by
  have hbounds : PhaseInv task → n < spriteEntries ∧ count ≤ spritesPerLine ∧ occupied.length = activeWidth := by
    intro h
    simp only [PhaseInv, hphase] at h
    obtain ⟨hn, hcount, -, -, -, hoccupied, -⟩ := h
    exact ⟨hn, hcount, hoccupied⟩
  have hrow : PhaseInv task → task.row.length = activeWidth := by
    intro h
    simp only [PhaseInv, hphase] at h
    obtain ⟨-, -, -, -, -, -, hrow⟩ := h
    exact hrow
  unfold spriteYAction
  dsimp only
  split
  · exact movesLine_setRender s rfl hrow
  split
  · refine movesLine_setRender s rfl fun h => ?_
    obtain ⟨-, hcount, hoccupied⟩ := hbounds h
    exact phaseInv_of_afterEntry rfl hcount hoccupied (hrow h)
  split
  · exact ⟨_, _, rfl, statusGrows_recordFifth n s.status, rfl, hrow⟩
  · rename_i hfour
    refine movesLine_setRender s rfl fun h => ?_
    obtain ⟨hn, hcount, hoccupied⟩ := hbounds h
    simp only [PhaseInv]
    exact ⟨hn, by omega, by simp, by simp, by simp, hoccupied, hrow h⟩

/-- What the invariant says of an entry whose Y byte has been read. -/
theorem phaseInv_sprite_cons {n count : Nat} {occupied : List Bool} {Y : Byte} {got : List Byte} {task : LineTask}
    (hphase : task.phase = .sprite n count occupied (Y :: got)) (h : PhaseInv task) :
    n < spriteEntries ∧ 1 ≤ count ∧ count ≤ spritesPerLine ∧ occupied.length = activeWidth ∧
      task.row.length = activeWidth ∧ ∀ attr, got[2]? = some attr → attrColour attr ≠ 0 := by
  simp only [PhaseInv, hphase] at h
  obtain ⟨hn, hcount, hpos, -, hcolour, hoccupied, hrow⟩ := h
  exact ⟨hn, hpos (by simp), hcount, hoccupied, hrow, hcolour⟩

/-- Another byte of an entry on the scanline is read, and the pattern is still to come. -/
theorem phaseInv_sprite_of_cons {n count : Nat} {occupied : List Bool} {Y : Byte} {got got' : List Byte}
    {task task' : LineTask} (hphase : task.phase = .sprite n count occupied (Y :: got)) (hrow' : task'.row = task.row)
    (hphase' : task'.phase = .sprite n count occupied got') (hlength : got'.length ≤ 5)
    (hcolour' : PhaseInv task → ∀ attr, got'[3]? = some attr → attrColour attr ≠ 0) (h : PhaseInv task) :
    PhaseInv task' := by
  obtain ⟨hn, hpos, hcount, hoccupied, hrow, -⟩ := phaseInv_sprite_cons hphase h
  simp only [PhaseInv, hphase', hrow']
  exact ⟨hn, hcount, fun _ => hpos, hlength, hcolour' h, hoccupied, hrow⟩

/-- The pattern of an entry on the scanline has been read: its pixels come next. -/
theorem phaseInv_overlay_of_sprite {n count : Nat} {occupied : List Bool} {Y X name attr left right : Byte}
    {got : List Byte} {task task' : LineTask}
    (hphase : task.phase = .sprite n count occupied (Y :: X :: name :: attr :: got)) (hrow' : task'.row = task.row)
    (hphase' : task'.phase = beginOverlay n count occupied (attrColour attr)
      (spriteDeviceColumns task.sample X attr left right)) (h : PhaseInv task) : PhaseInv task' := by
  obtain ⟨hn, hpos, hcount, hoccupied, hrow, hcolour⟩ := phaseInv_sprite_cons hphase h
  exact phaseInv_of_beginOverlay hphase' hn hpos hcount (hcolour attr rfl) (fun _ => spriteColumns_lt) hoccupied
    (hrow' ▸ hrow)

theorem movesLine_spriteAction {n count : Nat} {occupied : List Bool} {got : List Byte} {task : LineTask}
    (hphase : task.phase = .sprite n count occupied got) (s : State) :
    MovesLine task s (spriteAction n count occupied got task s) := by
  match got, hphase with
  | [], hphase => exact movesLine_spriteYAction hphase s
  | [Y], hphase =>
    exact movesLine_setRender s rfl (phaseInv_sprite_of_cons hphase rfl rfl (by simp) (by simp))
  | [Y, X], hphase =>
    exact movesLine_setRender s rfl (phaseInv_sprite_of_cons hphase rfl rfl (by simp) (by simp))
  | [Y, X, name], hphase =>
    unfold spriteAction
    dsimp only
    split
    · refine movesLine_setRender s rfl fun h => ?_
      obtain ⟨-, -, hcount, hoccupied, hrow, -⟩ := phaseInv_sprite_cons hphase h
      exact phaseInv_of_afterEntry rfl hcount hoccupied hrow
    · rename_i hcolour
      exact movesLine_setRender s rfl
        (phaseInv_sprite_of_cons hphase rfl rfl (by simp) fun _ _ hattr => Option.some.inj hattr ▸ hcolour)
  | [Y, X, name, attr], hphase =>
    unfold spriteAction
    dsimp only
    split
    · refine movesLine_setRender s rfl (phaseInv_sprite_of_cons hphase rfl rfl (by simp) fun h => ?_)
      obtain ⟨-, -, -, -, -, hcolour⟩ := phaseInv_sprite_cons hphase h
      exact hcolour
    · exact movesLine_setRender s rfl (phaseInv_overlay_of_sprite hphase rfl rfl)
  | Y :: X :: name :: attr :: left :: rest, hphase =>
    exact movesLine_setRender s rfl (phaseInv_overlay_of_sprite hphase rfl rfl)

theorem movesLine_overlayAction {n count : Nat} {occupied : List Bool} {colour : Colour} {columns : List Nat}
    {task : LineTask} (hphase : task.phase = .overlay n count occupied colour columns) (s : State) :
    MovesLine task s (overlayAction n count occupied colour columns task s) := by
  cases columns with
  | nil =>
    refine movesLine_setRender s rfl fun h => ?_
    simp [PhaseInv, hphase] at h
  | cons dx rest =>
    refine ⟨_, _, rfl, statusGrows_plot colour dx { row := task.row, occupied := occupied, status := s.status }, rfl,
      fun h => ?_⟩
    simp only [PhaseInv, hphase] at h
    obtain ⟨hn, hpos, hcount, hcolour, -, hcolumns, hoccupied, hrow⟩ := h
    obtain ⟨hrow', hoccupied'⟩ :=
      plot_lengths colour dx { row := task.row, occupied := occupied, status := s.status }
    exact phaseInv_of_beginOverlay rfl hn hpos hcount hcolour (fun d hd => hcolumns d (by simp [hd]))
      (hoccupied'.trans hoccupied) (hrow'.trans hrow)

/-- What the next atomic action of the render agent does: it ends a scanline that is drawn, or moves it on. -/
theorem renderAction_cases (task : LineTask) (s : State) (hdispatch : task.phase ≠ .dispatch) :
    (task.phase = .drawn ∧ renderAction task s = finishLine task s) ∨ MovesLine task s (renderAction task s) := by
  unfold renderAction
  cases hphase : task.phase with
  | sampling n => exact .inr (movesLine_sampleAction n s)
  | dispatch => exact absurd hphase hdispatch
  | plane m c got => exact .inr (movesLine_planeAction hphase s)
  | sprite n count occupied got => exact .inr (movesLine_spriteAction hphase s)
  | overlay n count occupied colour columns => exact .inr (movesLine_overlayAction hphase s)
  | drawn => exact .inl ⟨rfl, rfl⟩

end Sys2Proof.Machine

/-! What each instruction and each move of the render agent leaves alone of the status register, the registers and
VRAM; and from which accesses the instructions that change them are decoded. -/

namespace Sys2Proof.Machine

/-- The registers and VRAM are left alone, and the status register grows: what rendering and the mere passing of an
event do. -/
structure RenderFrame (s t : State) : Prop where
  status : StatusGrows s.status t.status
  regs : t.regs = s.regs
  vram : t.vram = s.vram

theorem renderFrame_of_movesLine {task : LineTask} {s t : State} (h : MovesLine task s t) : RenderFrame s t := by
  obtain ⟨task', st, rfl, hgrows, -⟩ := h
  exact ⟨hgrows, rfl, rfl⟩

theorem renderFrame_of_dispatchLine {m : DisplayMode} {s t : State} (h : dispatchLine m s = .next t) :
    RenderFrame s t := by
  obtain ⟨task, -, hmove⟩ := movesLine_of_dispatchLine h
  exact renderFrame_of_movesLine hmove

theorem renderFrame_renderAction {task : LineTask} (s : State) (hphase : task.phase ≠ .dispatch) :
    RenderFrame s (renderAction task s) := by
  obtain ⟨-, hfinish⟩ | hmove := renderAction_cases task s hphase
  · rw [hfinish]; exact ⟨statusGrows_endLine .., rfl, rfl⟩
  · exact renderFrame_of_movesLine hmove

/-- A FRAME that answers found no scanline in progress; its next state in full (R110). -/
theorem execFrame_next_cases {e : Nat} {s t : State} (h : execFrame e s = .next t) :
    let f := frameRows s.params.spriteYBias s.regs s.memRead (List.range activeHeight) s.status
    s.render = none ∧ t = { s with
      surface := f.1
      status := setF f.2
      timing := frameRedrawn s.params.validator e s.timing } := by
  unfold execFrame at h
  split at h
  · simp at h
  · rename_i hr
    exact ⟨by simpa using hr, by simpa using h.symm⟩

/-- A LINE that answers is in 0..191 and found no scanline in progress; its next state in full (R111). -/
theorem execLine_next_cases {index : Nat} {s t : State} (h : execLine index s = .next t) :
    let line := scanlineRow s.params.spriteYBias index s.regs s.memRead s.status
    index < activeHeight ∧ s.render = none ∧
      t = { s with lineOut := some (index, line.1), status := endLine index line.2 } := by
  unfold execLine at h
  split at h
  · simp at h
  · rename_i hindex
    split at h
    · simp at h
    · rename_i hr
      exact ⟨by omega, by simpa using hr, by simpa using h.symm⟩

/-- What an instruction leaves alone: the registers unless it is REGW or RESET, VRAM unless it is WD; and the status
register grows unless it is one of the three that clear a flag. -/
structure ExecFrame (i : Instr) (s t : State) : Prop where
  status : i ∉ [.rs, .clrint, .reset] → StatusGrows s.status t.status
  regs : t.regs = s.regs ∨ (∃ reg ignored e, i = .regw reg ignored e) ∨ i = .reset
  vram : t.vram = s.vram ∨ ∃ v e, i = .wd v e

theorem RenderFrame.execFrame {s t : State} (h : RenderFrame s t) (i : Instr) : ExecFrame i s t :=
  ⟨fun _ => h.status, .inl h.regs, .inl h.vram⟩

/-- A gated operation has its instruction's frame if what it does past the gate has. -/
theorem execFrame_of_timed {i : Instr} {op : TimedOp} {e : Nat} {dropped run : State → State} {s t : State}
    (h : timed op e dropped run s = .next t) (hdropped : ∀ u, ExecFrame i s u → ExecFrame i s (dropped u))
    (hrun : ∀ u, ExecFrame i s u → ExecFrame i s (run u)) : ExecFrame i s t :=
  timed_keeps (P := ExecFrame i s) h ⟨fun _ => .refl _, .inl rfl, .inl rfl⟩ (fun _ _ _ hu => { hu with })
    (fun _ _ hu => { hu with }) hdropped hrun

theorem execFrame_of_exec {i : Instr} {s t : State} (h : exec i s = .next t) : ExecFrame i s t := by
  cases i with
  | wd v e =>
    refine execFrame_of_timed h (fun _ hu => { hu with }) fun u hu => ?_
    unfold writeData
    split <;> exact { hu with vram := .inr ⟨v, e, rfl⟩ }
  | rd e =>
    refine execFrame_of_timed h (fun _ hu => { hu with }) fun u hu => ?_
    unfold readData
    split <;> exact { hu with }
  | wc1 | setrd | setwr | cmdinv =>
    exact execFrame_of_timed h (fun _ hu => { hu with }) fun _ hu => { hu with }
  | regw reg ignored e =>
    refine execFrame_of_timed h (fun _ hu => { hu with }) fun u hu => ?_
    unfold registerWrite
    split <;> exact { hu with regs := .inr (.inl ⟨reg, ignored, e, rfl⟩) }
  | rs | clrint => cases h; exact ⟨fun hi => absurd hi (by simp), .inl rfl, .inl rfl⟩
  | reset => cases h; exact ⟨fun hi => absurd hi (by simp), .inr (.inr rfl), .inl rfl⟩
  | intp => cases h; exact ⟨fun _ => .refl _, .inl rfl, .inl rfl⟩
  | frame e =>
    obtain ⟨-, rfl⟩ := execFrame_next_cases h
    exact ⟨fun _ => (statusGrows_frameRows ..).trans (statusGrows_setF _), .inl rfl, .inl rfl⟩
  | line index =>
    obtain ⟨-, -, rfl⟩ := execLine_next_cases h
    exact ⟨fun _ => (statusGrows_scanlineIn ..).trans (statusGrows_endLine index _), .inl rfl, .inl rfl⟩
  | modeBlank | modeG1 | modeG2 | modeMc | modeTx | modeInvalidM2M3 | modeInvalidM1M3 | modeInvalidM1M2
  | modeInvalidAll => exact (renderFrame_of_dispatchLine h).execFrame _

/-- The four classes of a second command byte (R62), the register write with its class bits. -/
theorem decodeSecondByte_cases (v : Byte) (e : Nat) :
    (∃ addrHi, decodeSecondByte v e = .setrd addrHi e) ∨ (∃ addrHi, decodeSecondByte v e = .setwr addrHi e) ∨
    (v &&& 0xC0 = 0x80 ∧ ∃ reg ignored, decodeSecondByte v e = .regw reg ignored e) ∨
    ∃ ignored, decodeSecondByte v e = .cmdinv ignored e := by
  have hclass : ∀ v : Byte, (v.extractLsb' 6 2).toNat = 2 → v &&& 0xC0 = 0x80 := by decide +kernel
  unfold decodeSecondByte
  split
  · exact .inl ⟨_, rfl⟩
  · exact .inr (.inl ⟨_, rfl⟩)
  · exact .inr (.inr (.inl ⟨hclass v ‹_›, _, _, rfl⟩))
  · exact .inr (.inr (.inr ⟨_, rfl⟩))

/-- From which access each operation comes that changes VRAM or the registers, or clears a status flag. -/
structure DecodedFrom (latched : Bool) (a : Access) (i : Instr) : Prop where
  rs : i = .rs → a = .commandRead
  clrint : i = .clrint → a = .clearInterrupt
  reset : i = .reset → a = .reset
  wd : ∀ v e, i = .wd v e → a = .dataWrite v e
  regw : ∀ reg ignored e, i = .regw reg ignored e →
    ∃ v, a = .commandWrite v e ∧ latched = true ∧ v &&& 0xC0 = 0x80

theorem decodedFrom_of_decodeAccess {latched : Bool} {a : Access} {i : Instr}
    (h : decodeAccess latched a = .ok i) : DecodedFrom latched a i := by
  cases a with
  | commandWrite v e =>
    cases latched with
    | false =>
      obtain rfl : Instr.wc1 v e = i := by simpa [decodeAccess] using h
      constructor <;> simp
    | true =>
      obtain rfl : decodeSecondByte v e = i := by simpa [decodeAccess] using h
      obtain ⟨_, hi⟩ | ⟨_, hi⟩ | ⟨hclass, _, _, hi⟩ | ⟨_, hi⟩ := decodeSecondByte_cases v e <;>
        constructor <;> simp_all
  | renderScanline index =>
    simp only [decodeAccess] at h
    split at h
    · cases h; constructor <;> simp
    · cases h
  | dataWrite | dataRead | commandRead | isInterruptPending | clearInterrupt | renderFrame | reset =>
    cases h; constructor <;> simp

end Sys2Proof.Machine

/-! Over all steps: the status register, the registers and VRAM. -/

namespace Sys2Proof.Machine

/-- A step either executes an operation that the decoder read from an access, in that instruction's frame, or leaves the
registers and VRAM alone and lets the status register grow. -/
theorem step_frame {s t : State} (h : step s = .next t) :
    (∃ a i rest, s.trace = .op a :: rest ∧ DecodedFrom s.latched a i ∧ ExecFrame i s t) ∨ RenderFrame s t := by
  cases stepTo_of_step h with
  | exhausted _ ht | noScanline _ _ ht => subst ht; exact .inr ⟨.refl _, rfl, rfl⟩
  | start index g _ _ _ ht => subst ht; exact .inr ⟨.refl _, rfl, rfl⟩
  | op a i rest htrace hdecode hexec =>
    exact .inl ⟨a, i, rest, htrace, decodedFrom_of_decodeAccess hdecode, { execFrame_of_exec hexec with }⟩
  | dispatch task _ _ _ hdisp => exact .inr { renderFrame_of_dispatchLine hdisp with }
  | action task _ _ _ hphase ht => subst ht; exact .inr { renderFrame_renderAction s.advance hphase with }

/-- A step that is no ReadStatus, ClearInterrupt or Reset lets the status register grow. -/
theorem statusGrows_of_step {s t : State} {ev : Event} {rest : List Event} (htrace : s.trace = ev :: rest)
    (hev : ev ∉ [.op .commandRead, .op .reset, .op .clearInterrupt]) (h : step s = .next t) :
    StatusGrows s.status t.status := by
  obtain ⟨a, i, rest', htrace', hfrom, hframe⟩ | hframe := step_frame h
  · obtain ⟨rfl, -⟩ := List.cons.inj (htrace.symm.trans htrace')
    refine hframe.status fun hi => hev ?_
    simp only [List.mem_cons, List.not_mem_nil, or_false, Event.op.injEq] at hi ⊢
    obtain hi | hi | hi := hi
    · exact .inl (hfrom.rs hi)
    · exact .inr (.inr (hfrom.clrint hi))
    · exact .inr (.inl (hfrom.reset hi))
  · exact hframe.status

/-- Settles O41: ReadStatus, Reset and ClearInterrupt by what they do, every other event by `statusGrows_of_step`. -/
theorem statusFieldsAreClearedTogether : Obligations.StatusFieldsAreClearedTogether := by
  intro s t ev rest htrace h
  refine ⟨?_, ?_, fun hev => ?_⟩
  · rintro (rfl | rfl) <;> rw [step_of_op htrace rfl] at h <;> cases h <;> rfl
  · rintro rfl
    rw [step_of_op htrace rfl] at h
    cases h
    exact clearF_fields s.status
  · obtain ⟨hF, h5, hC, hN⟩ := statusGrows_of_step htrace hev h
    exact ⟨hF, h5, hC, hN⟩

/-- Settles O42: `step_frame` leaves REGW and RESET, which are decoded from those accesses alone. -/
theorem registersChangeOnlyByRegisterWriteOrReset : Obligations.RegistersChangeOnlyByRegisterWriteOrReset := by
  intro s t h hregs
  obtain ⟨a, i, rest, htrace, hfrom, hframe⟩ | hframe := step_frame h
  · obtain hsame | ⟨reg, ignored, e, hi⟩ | hi := hframe.regs
    · exact absurd hsame hregs
    · obtain ⟨v, rfl, hlatched, hclass⟩ := hfrom.regw reg ignored e hi
      exact ⟨rest, .inr ⟨v, e, htrace, hlatched, hclass⟩⟩
    · exact ⟨rest, .inl (hfrom.reset hi ▸ htrace)⟩
  · exact absurd hframe.regs hregs

/-- Settles O43: `step_frame` leaves WD, which is decoded from a data write alone. -/
theorem vramChangesOnlyByWriteData : Obligations.VramChangesOnlyByWriteData := by
  intro s t h hvram
  obtain ⟨a, i, rest, htrace, hfrom, hframe⟩ | hframe := step_frame h
  · obtain hsame | ⟨v, e, hi⟩ := hframe.vram
    · exact absurd hsame hvram
    · exact ⟨v, e, rest, hfrom.wd v e hi ▸ htrace⟩
  · exact absurd hframe.vram hvram

end Sys2Proof.Machine

/-! The invariant: one rule per update of the state, then the instructions, the moves of the render agent and the
step. -/

namespace Sys2Proof.Machine

theorem statusFSN_zero : statusFSN 0x00 = 0 := by
  obtain ⟨-, -, -, hN⟩ := status_zero_fields
  exact hN

/-- A status register that has grown keeps "FSN is 0 whenever S5 is 0" (R150). -/
theorem StatusGrows.fsn_zero {st st' : Byte} (h : StatusGrows st st')
    (hzero : statusS5 st = false → statusFSN st = 0) : statusS5 st' = false → statusFSN st' = 0 := by
  intro h5'
  have h5 : statusS5 st = false := Bool.eq_false_iff.mpr fun h5 => by simp [h.fifth h5] at h5'
  by_contra hne
  obtain ⟨-, h5''⟩ := h.index fun heq => hne (heq.trans (hzero h5))
  simp [h5''] at h5'

/-- Replacing the timestamp of a category keeps the categories rising. -/
theorem TimingState.sortedFrom_insert (cat e : Nat) : ∀ (lo : Nat) (l : List (Nat × Nat)), lo ≤ cat →
    TimingState.sortedFrom lo l = true → TimingState.sortedFrom lo (TimingState.insert l cat e) = true
  | _, [], hlo, _ => by simpa [TimingState.insert, TimingState.sortedFrom] using hlo
  | lo, (c, u) :: l, hlo, h => by
    simp only [TimingState.sortedFrom, Bool.and_eq_true, decide_eq_true_eq] at h
    obtain ⟨hc, hl⟩ := h
    unfold TimingState.insert
    split
    · rename_i hcat
      simpa [TimingState.sortedFrom, hlo, hl] using hcat
    split
    · rename_i hcat
      subst hcat
      simp [TimingState.sortedFrom, hlo, hl]
    · have hcat : c + 1 ≤ cat := by omega
      simp [TimingState.sortedFrom, hc, TimingState.sortedFrom_insert cat e (c + 1) l hcat hl]

section

variable {s : State}

theorem Inv.advance (h : Inv s) : Inv s.advance := { h with }
theorem Inv.answer (h : Inv s) (r : PortResult) : Inv (s.answer r) := { h with }
theorem Inv.draw (h : Inv s) : Inv s.draw := { h with }
theorem Inv.raise (h : Inv s) (d : Diag) : Inv (s.raise d) := { h with }
theorem Inv.setLatchByte (h : Inv s) (b : Byte) : Inv (s.setLatchByte b) := { h with }
theorem Inv.setLatched (h : Inv s) (b : Bool) : Inv (s.setLatched b) := { h with }
theorem Inv.setMode (h : Inv s) (m : RwMode) : Inv (s.setMode m) := { h with }
theorem Inv.setReg (h : Inv s) (i : BitVec 3) (v : Byte) : Inv (s.setReg i v) := { h with }

theorem Inv.setAddress (h : Inv s) (v : Nat) : Inv (s.setAddress v) :=
  { h with address_below := by rw [s.setAddress_toNat]; exact Nat.mod_lt v s.vramBytes_pos }

theorem Inv.memWrite (h : Inv s) (a : Nat) (v : Byte) : Inv (s.memWrite a v) :=
  { h with
    vram_canonical := State.memWrite_wf h.vram_canonical a v
    vram_below := State.memWrite_below h.vram_below a v }

theorem Inv.recordAccess (h : Inv s) (c e : Nat) : Inv (s.recordAccess c e) :=
  { h with timing_sorted := TimingState.sortedFrom_insert c e 0 _ (Nat.zero_le c) h.timing_sorted }

theorem Inv.setStatus (h : Inv s) {st : Byte} (hst : statusS5 st = false → statusFSN st = 0) : Inv (s.setStatus st) :=
  { h with fsn_zero := hst }

theorem Inv.setRender (h : Inv s) {task : LineTask} (hindex : task.index < activeHeight) (hphase : PhaseInv task) :
    Inv (s.setRender (some task)) :=
  { h with line_in_progress := fun _ ht => Option.some.inj ht ▸ ⟨hindex, hphase⟩ }

/-- A gated operation keeps the invariant if what it does past the gate keeps it. -/
theorem inv_of_timed {op : TimedOp} {e : Nat} {dropped run : State → State} {t : State}
    (h : timed op e dropped run s = .next t) (hs : Inv s) (hdropped : ∀ u, Inv u → Inv (dropped u))
    (hrun : ∀ u, Inv u → Inv (run u)) : Inv t :=
  timed_keeps h hs (fun _ _ _ hu => hu.recordAccess _ _) (fun _ _ hu => hu.raise _) hdropped hrun

theorem inv_dropWrite (h : Inv s) : Inv (dropWrite s) := h.answer _

theorem inv_dropRead (h : Inv s) : Inv (dropRead s) := (h.answer _).draw

theorem inv_writeData (v : Byte) (h : Inv s) : Inv (writeData v s) := by
  unfold writeData
  split
  · exact (((((h.raise _).setMode _).memWrite _ v).setAddress _).setLatched _).answer _
  · exact (((h.memWrite _ v).setAddress _).setLatched _).answer _

theorem inv_readData (h : Inv s) : Inv (readData s) := by
  unfold readData
  split
  · exact ((h.setAddress _).setLatched _).answer _
  · exact (((h.raise _).setMode _).setLatched _).answer _

theorem inv_firstByte (v : Byte) (h : Inv s) : Inv (firstByte v s) :=
  (((h.setLatchByte v).setAddress _).setLatched _).answer _

theorem inv_addressCommand (m : RwMode) (addrHi : BitVec 6) (h : Inv s) : Inv (addressCommand m addrHi s) :=
  (((h.setAddress _).setMode m).setLatched _).answer _

theorem inv_registerWrite (reg : BitVec 3) (h : Inv s) : Inv (registerWrite reg s) := by
  unfold registerWrite
  split
  · exact ((h.setReg reg _).setLatched _).answer _
  · exact (((h.raise _).setReg reg _).setLatched _).answer _

theorem inv_invalidCommand (ignored : BitVec 6) (h : Inv s) : Inv (invalidCommand ignored s) :=
  ((h.raise _).setLatched _).answer _

theorem inv_reset {t : State} (h : Inv s) (ht : execReset s = .next t) : Inv t := by
  cases ht
  exact { h with
    address_below := s.vramBytes_pos
    fsn_zero := fun _ => statusFSN_zero
    timing_sorted := rfl
    line_in_progress := fun _ hr => nomatch hr }

/-- A frame writes 192 rows of 256 codes (R112). -/
theorem inv_frame {e : Nat} {t : State} (h : Inv s) (ht : execFrame e s = .next t) : Inv t := by
  obtain ⟨-, rfl⟩ := execFrame_next_cases ht
  refine { h with
    fsn_zero := ((statusGrows_frameRows ..).trans (statusGrows_setF _)).fsn_zero h.fsn_zero
    timing_sorted := ?_
    frame_written := .inr ⟨?_, fun _ hrow => length_of_mem_frameRows _ _ _ _ _ hrow⟩ }
  · show TimingState.sortedFrom 0 (frameRedrawn s.params.validator e s.timing).last = true
    cases s.params.validator <;> exact h.timing_sorted
  · exact (length_frameRows ..).trans List.length_range

/-- A scanline returns a row of 256 codes (R112). -/
theorem inv_line {index : Nat} {t : State} (h : Inv s) (ht : execLine index s = .next t) : Inv t := by
  obtain ⟨hindex, -, rfl⟩ := execLine_next_cases ht
  exact { h with
    fsn_zero := ((statusGrows_scanlineIn ..).trans (statusGrows_endLine index _)).fsn_zero h.fsn_zero
    line_returned := fun _ hp => Option.some.inj hp ▸ ⟨hindex, length_scanlineIn ..⟩ }

/-- A move inside the scanline in progress keeps the invariant. -/
theorem inv_of_movesLine {task : LineTask} {t : State} (h : Inv s) (htask : s.render = some task)
    (hmove : MovesLine task s t) : Inv t := by
  obtain ⟨task', st, rfl, hgrows, hindex, hphase⟩ := hmove
  obtain ⟨hin, hstands⟩ := h.line_in_progress task htask
  exact (h.setRender (hindex ▸ hin) (hphase hstands)).setStatus (hgrows.fsn_zero h.fsn_zero)

theorem inv_dispatchLine {m : DisplayMode} {t : State} (h : Inv s) (ht : dispatchLine m s = .next t) : Inv t := by
  obtain ⟨task, htask, hmove⟩ := movesLine_of_dispatchLine ht
  exact inv_of_movesLine h htask hmove

/-- The end of a scanline returns the row that the invariant says is complete. -/
theorem inv_finishLine {task : LineTask} (h : Inv s) (htask : s.render = some task) (hdrawn : task.phase = .drawn) :
    Inv (finishLine task s) := by
  obtain ⟨hindex, hphase⟩ := h.line_in_progress task htask
  have hrow : task.row.length = activeWidth := by simpa only [PhaseInv, hdrawn] using hphase
  exact { h with
    fsn_zero := (statusGrows_endLine task.index s.status).fsn_zero h.fsn_zero
    line_in_progress := fun _ hr => nomatch hr
    line_returned := fun _ hp => Option.some.inj hp ▸ ⟨hindex, hrow⟩ }

theorem inv_renderAction {task : LineTask} (h : Inv s) (htask : s.render = some task) (hphase : task.phase ≠ .dispatch) :
    Inv (renderAction task s) := by
  obtain ⟨hdrawn, hfinish⟩ | hmove := renderAction_cases task s hphase
  · rw [hfinish]; exact inv_finishLine h htask hdrawn
  · exact inv_of_movesLine h htask hmove

/-- Every instruction keeps the invariant. -/
theorem inv_of_exec {i : Instr} {t : State} (h : Inv s) (ht : exec i s = .next t) : Inv t := by
  cases i with
  | wd v e => exact inv_of_timed ht h (fun _ => inv_dropWrite) fun _ => inv_writeData v
  | rd e => exact inv_of_timed ht h (fun _ => inv_dropRead) fun _ => inv_readData
  | rs =>
    cases ht
    exact ((h.setStatus fun _ => statusFSN_zero).setLatched _).answer _
  | wc1 v e => exact inv_of_timed ht h (fun _ => inv_dropWrite) fun _ => inv_firstByte v
  | setrd addrHi e => exact inv_of_timed ht h (fun _ => inv_dropWrite) fun _ => inv_addressCommand .read addrHi
  | setwr addrHi e => exact inv_of_timed ht h (fun _ => inv_dropWrite) fun _ => inv_addressCommand .write addrHi
  | regw reg ignored e => exact inv_of_timed ht h (fun _ => inv_dropWrite) fun _ => inv_registerWrite reg
  | cmdinv ignored e => exact inv_of_timed ht h (fun _ => inv_dropWrite) fun _ => inv_invalidCommand ignored
  | intp => cases ht; exact h.answer _
  | clrint =>
    cases ht
    obtain ⟨-, h5, -, hN⟩ := clearF_fields s.status
    exact (h.setStatus fun hst => hN.trans (h.fsn_zero (h5 ▸ hst))).answer _
  | frame e => exact inv_frame h ht
  | line index => exact inv_line h ht
  | reset => exact inv_reset h ht
  | modeBlank | modeG1 | modeG2 | modeMc | modeTx | modeInvalidM2M3 | modeInvalidM1M3 | modeInvalidM1M2
  | modeInvalidAll => exact inv_dispatchLine h ht

end

/-- Settles O39, by the event of the step. -/
theorem everyStepKeepsTheInvariant : Obligations.EveryStepKeepsTheInvariant := by
  intro s t h hstep
  cases stepTo_of_step hstep with
  | exhausted _ ht | noScanline _ _ ht => exact ht ▸ h.advance
  | op a i _ _ _ hexec => exact inv_of_exec h.advance hexec
  | start index g _ _ hindex ht =>
    subst ht
    exact h.advance.setRender (by cases g <;> exact hindex) (phaseInv_newLine index g s.regs)
  | dispatch task _ _ _ hdisp => exact inv_dispatchLine h.advance hdisp
  | action task _ _ htask hphase ht => exact ht ▸ inv_renderAction h.advance htask hphase

/-- Settles O40: nothing is written, drawn or recorded yet. -/
theorem resetStateHasTheInvariant : Obligations.ResetStateHasTheInvariant := by
  refine ⟨?_, fun _ => rfl, 0, rfl⟩
  exact {
    vram_canonical := reset_memory_wf
    vram_below := rfl
    address_below := State.vramBytes_pos _
    fsn_zero := fun _ => statusFSN_zero
    timing_sorted := rfl
    line_in_progress := fun _ h => nomatch h
    line_returned := fun _ h => nomatch h
    frame_written := .inl rfl }

end Sys2Proof.Machine

/-! Rendering and the access state (R22, R100): every operation of the render agent commutes with replacing
`address`, `mode`, `latched` and `latchByte`. -/

namespace Sys2Proof.Machine

/-- The state with its access state replaced (R22 to R25). -/
def State.withAccessState (s : State) (a : VAddr) (m : RwMode) (l : Bool) (b : Byte) : State :=
  { s with address := a, mode := m, latched := l, latchByte := b }

section

variable {s t : State} (a : VAddr) (m : RwMode) (l : Bool) (b : Byte)

theorem execFrame_withAccessState {e : Nat} (h : execFrame e s = .next t) :
    execFrame e (s.withAccessState a m l b) = .next (t.withAccessState a m l b) := by
  obtain ⟨hr, rfl⟩ := execFrame_next_cases h
  simp only [execFrame, State.withAccessState, hr]
  rfl

theorem execLine_withAccessState {index : Nat} (h : execLine index s = .next t) :
    execLine index (s.withAccessState a m l b) = .next (t.withAccessState a m l b) := by
  obtain ⟨hindex, hr, rfl⟩ := execLine_next_cases h
  simp only [execLine, State.withAccessState, hr, Nat.not_le.mpr hindex, if_false]
  rfl

theorem startLine_withAccessState {index : Nat} {g : Granularity} (h : startLine index g s = .next t) :
    startLine index g (s.withAccessState a m l b) = .next (t.withAccessState a m l b) := by
  obtain ⟨hindex, hr, rfl⟩ := startLine_next_cases h
  simp only [startLine, State.withAccessState, hr, Nat.not_le.mpr hindex, if_false]
  rfl

theorem dispatchLine_withAccessState {d : DisplayMode} (h : dispatchLine d s = .next t) :
    dispatchLine d (s.withAccessState a m l b) = .next (t.withAccessState a m l b) := by
  obtain ⟨⟨index, sample, granularity, phase, row⟩, hr, hp, hcases⟩ := dispatchLine_next_cases h
  obtain rfl : phase = .dispatch := hp
  obtain ⟨hg, rfl⟩ | ⟨hg, rfl⟩ := hcases
  · obtain rfl : granularity = .byByte := hg
    simp only [dispatchLine, State.withAccessState, hr, if_true]
    rfl
  · obtain rfl : granularity = .whole := hg
    simp only [dispatchLine, State.withAccessState, hr, if_true]
    rfl

variable (task : LineTask)

theorem planeAction_withAccessState (d : DisplayMode) (c : Nat) (got : List Byte) :
    planeAction d c got task (s.withAccessState a m l b) = (planeAction d c got task s).withAccessState a m l b := by
  simp only [planeAction, apply_ite (State.withAccessState · a m l b)]
  rfl

theorem spriteYAction_withAccessState (n count : Nat) (occupied : List Bool) :
    spriteYAction n count occupied task (s.withAccessState a m l b) =
      (spriteYAction n count occupied task s).withAccessState a m l b := by
  simp only [spriteYAction, apply_ite (State.withAccessState · a m l b)]
  rfl

theorem spriteAction_withAccessState (n count : Nat) (occupied : List Bool) (got : List Byte) :
    spriteAction n count occupied got task (s.withAccessState a m l b) =
      (spriteAction n count occupied got task s).withAccessState a m l b := by
  match got with
  | [] => exact spriteYAction_withAccessState a m l b task n count occupied
  | [_] | [_, _] | _ :: _ :: _ :: _ :: _ :: _ => rfl
  | [_, _, _] | [_, _, _, _] =>
    simp only [spriteAction, apply_ite (State.withAccessState · a m l b)]
    rfl

theorem renderAction_withAccessState :
    renderAction task (s.withAccessState a m l b) = (renderAction task s).withAccessState a m l b := by
  unfold renderAction
  cases task.phase with
  | sampling | dispatch | drawn => rfl
  | plane d c got => exact planeAction_withAccessState a m l b task d c got
  | sprite n count occupied got => exact spriteAction_withAccessState a m l b task n count occupied got
  | overlay n count occupied colour columns => cases columns <;> rfl

/-- The four operations of R9 that leave the access state alone are decoded the same in both latch phases and
executed alike in every access state. -/
theorem exec_withAccessState {access : Access} {i : Instr} (hleaves : Event.leavesAccessState (.op access) = true)
    (hdecode : decodeAccess s.latched access = .ok i) (h : exec i s.advance = .next t) :
    decodeAccess l access = .ok i ∧
      exec i (s.advance.withAccessState a m l b) = .next (t.withAccessState a m l b) := by
  cases access with
  | isInterruptPending | clearInterrupt => cases hdecode; cases h; exact ⟨rfl, rfl⟩
  | renderFrame e => cases hdecode; exact ⟨rfl, execFrame_withAccessState a m l b h⟩
  | renderScanline index =>
    refine ⟨hdecode, ?_⟩
    simp only [decodeAccess] at hdecode
    split at hdecode
    · cases hdecode; exact execLine_withAccessState a m l b h
    · cases hdecode
  | dataWrite | dataRead | commandRead | commandWrite | reset => simp [Event.leavesAccessState] at hleaves

end

/-- Settles O45, by the event of the step. -/
theorem renderingDoesNotDependOnTheAccessState : Obligations.RenderingDoesNotDependOnTheAccessState := by
  intro s t ev rest a m l b htrace hleaves h
  show step (s.withAccessState a m l b) = .next (t.withAccessState a m l b)
  have htrace' : (s.withAccessState a m l b).trace = ev :: rest := htrace
  cases ev with
  | op access =>
    cases hdecode : decodeAccess s.latched access with
    | error e => simp [step_of_op_error htrace hdecode] at h
    | ok i =>
      rw [step_of_op htrace hdecode] at h
      obtain ⟨hdecode', h'⟩ := exec_withAccessState a m l b hleaves hdecode h
      exact (step_of_op htrace' hdecode').trans h'
  | lineStart index g =>
    rw [step_of_lineStart htrace] at h
    exact (step_of_lineStart htrace').trans (startLine_withAccessState a m l b h)
  | renderNext =>
    cases htask : s.render with
    | none =>
      rw [step_of_renderNext_idle htrace htask] at h
      cases h
      exact step_of_renderNext_idle htrace' htask
    | some task =>
      by_cases hp : task.phase = .dispatch
      · rw [step_of_renderNext_dispatch htrace htask hp] at h
        exact (step_of_renderNext_dispatch htrace' htask hp).trans (dispatchLine_withAccessState a m l b h)
      · rw [step_of_renderNext_action htrace htask hp] at h
        cases h
        exact (step_of_renderNext_action htrace' htask hp).trans
          (congrArg Host.Outcome.next (renderAction_withAccessState (s := s.advance) a m l b task))

end Sys2Proof.Machine

/-! The register write, INTP and RESET. -/

namespace Sys2Proof.Machine

/-- The must-be-zero masks as the table of R19 lists them. -/
theorem mustBeZero_eq_getD (i : BitVec 3) :
    mustBeZero i = ([0xFC, 0x04, 0xF0, 0x00, 0xF8, 0x80, 0xF8, 0x00] : List Byte).getD i.toNat 0 := by
  obtain rfl | rfl | rfl | rfl | rfl | rfl | rfl | rfl := reg_cases i <;> rfl

/-- REGW past the gate: the register, and a diagnostic if a must-be-zero bit is 1 (R95). -/
theorem registerWrite_eq (reg : BitVec 3) (s : State) : registerWrite reg s = { s with
    regs := s.regs.set reg s.latchByte
    latched := false
    portOut := .nothing
    diags := s.diags ++
      (if s.latchByte &&& mustBeZero reg ≠ 0 then [.reservedBits reg s.latchByte] else []) } := by
  unfold registerWrite
  by_cases hlegal : s.latchByte &&& mustBeZero reg = 0
  · rw [if_pos hlegal, if_neg (not_not_intro hlegal), List.append_nil]
    rfl
  · rw [if_neg hlegal, if_pos hlegal]
    rfl

/-- Settles O14: past the gate REGW is `registerWrite`, whatever the ignored bits are. -/
theorem registerWriteStoresTheByteVerbatim : Obligations.RegisterWriteStoresTheByteVerbatim := by
  intro reg ignored e s s1 hpass
  have hexec : exec (.regw reg ignored e) s = .next (registerWrite reg s1) := timed_of_passes hpass
  rw [registerWrite_eq, mustBeZero_eq_getD] at hexec
  exact ⟨_, hexec, rfl, RegFile.get_set_same .., fun _ => RegFile.get_set_other _ _⟩

/-- Settles O19: `interruptPending` is F and IE, and INTP answers it. -/
theorem interruptPendingIsFrameFlagAndEnable : Obligations.InterruptPendingIsFrameFlagAndEnable := fun _ => rfl

/-- Settles O21: the fields that `execReset` replaces are those of the reset table. -/
theorem resetClearsAllButLatchByteAndVram : Obligations.ResetClearsAllButLatchByteAndVram := fun _ => rfl

end Sys2Proof.Machine

/-! Sprite geometry: which device columns a source line covers, and which sprite entries a scanline shows, from the
bytes in VRAM. -/

namespace Sys2Proof.Machine

/-- The columns of one source pixel. -/
def pixelColumns (scale : Nat) (x0 : Int) (i : Nat) : List Nat :=
  (List.range scale).filterMap fun k =>
    if 0 ≤ x0 + (i * scale + k : Nat) ∧ x0 + (i * scale + k : Nat) ≤ 255 then some (x0 + (i * scale + k : Nat)).toNat
    else none

theorem spriteColumns_eq_flatMap (size scale : Nat) (x0 : Int) (bits : BitVec 16) :
    spriteColumns size scale x0 bits =
      (List.range size).flatMap fun i => if bits.getLsbD (size - 1 - i) then pixelColumns scale x0 i else [] := rfl

/-- The columns of source pixel `i` are `scale` wide from `x0 + i * scale`, cut to 0..255 (R154). -/
theorem mem_pixelColumns {scale : Nat} {x0 : Int} {i dx : Nat} :
    dx ∈ pixelColumns scale x0 i ↔ dx ≤ 255 ∧ ∃ k < scale, (dx : Int) = x0 + ((i * scale + k : Nat) : Int) := by
  simp only [pixelColumns, List.mem_filterMap, List.mem_range, Option.ite_none_right_eq_some, Option.some.injEq]
  constructor
  · rintro ⟨k, hk, hin, rfl⟩
    exact ⟨by omega, k, hk, by omega⟩
  · rintro ⟨hdx, k, hk, heq⟩
    exact ⟨k, hk, by omega, by omega⟩

theorem pixelColumns_sorted (scale : Nat) (x0 : Int) (i : Nat) : (pixelColumns scale x0 i).Pairwise (· < ·) := by
  refine List.pairwise_filterMap.mpr (List.pairwise_lt_range.imp fun {k k'} hk dx hdx dx' hdx' => ?_)
  simp only [Option.ite_none_right_eq_some, Option.some.injEq] at hdx hdx'
  omega

/-- Every column of a source pixel stands left of every column of a later one. -/
theorem pixelColumns_lt {scale : Nat} {x0 : Int} {i i' dx dx' : Nat} (hi : i < i')
    (hdx : dx ∈ pixelColumns scale x0 i) (hdx' : dx' ∈ pixelColumns scale x0 i') : dx < dx' := by
  obtain ⟨-, k, hk, heq⟩ := mem_pixelColumns.mp hdx
  obtain ⟨-, k', -, heq'⟩ := mem_pixelColumns.mp hdx'
  have hscale : (i + 1) * scale ≤ i' * scale := Nat.mul_le_mul_right scale hi
  rw [Nat.add_mul, Nat.one_mul] at hscale
  omega

theorem mem_spriteColumns {size scale : Nat} {x0 : Int} {bits : BitVec 16} {dx : Nat} :
    dx ∈ spriteColumns size scale x0 bits ↔ dx ≤ 255 ∧ ∃ i k : Nat, i < size ∧ k < scale ∧
      bits.getLsbD (size - 1 - i) = true ∧ (dx : Int) = x0 + ((i * scale + k : Nat) : Int) := by
  simp only [spriteColumns_eq_flatMap, List.mem_flatMap, List.mem_range, List.mem_ite_nil_right, mem_pixelColumns]
  constructor
  · rintro ⟨i, hi, hbit, hdx, k, hk, heq⟩
    exact ⟨hdx, i, k, hi, hk, hbit, heq⟩
  · rintro ⟨hdx, i, k, hi, hk, hbit, heq⟩
    exact ⟨i, hi, hbit, hdx, k, hk, heq⟩

theorem spriteColumns_sorted (size scale : Nat) (x0 : Int) (bits : BitVec 16) :
    (spriteColumns size scale x0 bits).Pairwise (· < ·) := by
  rw [spriteColumns_eq_flatMap, List.pairwise_flatMap]
  refine ⟨fun i _ => ?_, List.pairwise_lt_range.imp fun {i i'} hi dx hdx dx' hdx' => ?_⟩
  · split
    · exact pixelColumns_sorted scale x0 i
    · exact List.Pairwise.nil
  · simp only [List.mem_ite_nil_right] at hdx hdx'
    exact pixelColumns_lt hi hdx.2 hdx'.2

/-- Source pixel `i` of a sprite: bit 7 of each byte is the leftmost, the left byte comes first (R151). -/
theorem sourceBits_getLsbD (r : RegFile) (left right : Byte) {i : Nat} (hi : i < r.spriteSize) :
    (sourceBits r left right).getLsbD (r.spriteSize - 1 - i) =
      if r.spriteSize = 8 then left.getLsbD (7 - i)
      else if i < 8 then left.getLsbD (7 - i) else right.getLsbD (15 - i) := by
  obtain hsize | hsize : r.spriteSize = 16 ∨ r.spriteSize = 8 := by unfold RegFile.spriteSize; split <;> simp
  · rw [hsize] at hi
    simp only [sourceBits, hsize, if_true, BitVec.getLsbD_append]
    by_cases h8 : i < 8
    · have h1 : ¬ 16 - 1 - i < 8 := by omega
      have h2 : 16 - 1 - i - 8 = 7 - i := by omega
      simp [h8, h1, h2]
    · have h1 : 16 - 1 - i < 8 := by omega
      simp [h8, h1]
  · rw [hsize] at hi
    simp [sourceBits, hsize, BitVec.getLsbD_setWidth]
    omega

/-- SAT, the base of the sprite entries (R16, R74). -/
theorem attributeAddress_eq (r : RegFile) (n k : Nat) :
    r.attributeAddress n k = r.r5.toNat % 128 * 0x80 + 4 * n + k := by
  simp [RegFile.attributeAddress, RegFile.spriteAttributeTable, Nat.shiftLeft_eq]

/-- The pattern index of a sprite as a number (R151). -/
theorem spriteName_toNat (r : RegFile) (name : Byte) :
    (r.spriteName name).toNat = if r.spriteSize = 16 then name.toNat / 4 * 4 else name.toNat := by
  have hround : ∀ b : Byte, (b &&& 0xFC).toNat = b.toNat / 4 * 4 := by decide +kernel
  unfold RegFile.spriteName
  split
  · exact hround name
  · rfl

/-- Byte `line` of a sprite's pattern (R17, R75). -/
theorem spritePatternByte_eq (r : RegFile) (name : Byte) (line : Nat) :
    glyphAddress r.spritePatternTable (r.spriteName name) line =
      r.r6.toNat % 8 * 0x800 + (if r.spriteSize = 16 then name.toNat / 4 * 4 else name.toNat) * 8 + line := by
  simp [glyphAddress, RegFile.spritePatternTable, Nat.shiftLeft_eq, spriteName_toNat]

/-- Settles O55: `mem_spriteColumns` with the bits of `sourceBits`, then the addresses of the entry's bytes. -/
theorem opaqueColumnsAreTheSourcePixels : Obligations.OpaqueColumnsAreTheSourcePixels := by
  intro bias y n r rd size scale
  constructor
  · intro X attr left right x0 pixel
    refine ⟨spriteColumns_sorted .., fun dx => ?_⟩
    refine mem_spriteColumns.trans (and_congr_right fun _ => exists_congr fun i => exists_congr fun k =>
      and_congr_right fun hi => and_congr_right fun _ => and_congr_left fun _ => ?_)
    rw [sourceBits_getLsbD r left right hi]
    rfl
  · intro entry Y name attr top line pattern
    have hattribute (k : Nat) : r.attributeAddress n k = entry + k := attributeAddress_eq r n k
    have hleft : r.spriteLeftAddress (rd (entry + 2)) line = pattern + line := spritePatternByte_eq ..
    have hright : r.spriteRightAddress (rd (entry + 2)) line = pattern + 16 + line :=
      (spritePatternByte_eq ..).trans (Nat.add_assoc ..).symm
    have hcolour : entryColour r rd n = attr.extractLsb' 0 4 := by rw [entryColour, hattribute]; rfl
    refine ⟨fun hzero => ?_, fun hone => ?_, hcolour⟩
    · simp only [opaqueColumns, hcolour, hzero, if_true]
    · simp only [opaqueColumns, hcolour, hone, if_false, hattribute]
      rw [← hleft, ← hright]
      rfl

/-- What `takeWhile` keeps of 0, 1, ... is the numbers that no failing number precedes or equals. -/
theorem mem_takeWhile_range {p : Nat → Bool} {N n : Nat} :
    n ∈ (List.range N).takeWhile p ↔ n < N ∧ ∀ m ≤ n, p m = true := by
  induction N generalizing p n with
  | zero => simp
  | succ N ih =>
    rw [List.range_succ_eq_map, List.takeWhile_cons, List.takeWhile_map]
    cases h0 : p 0 with
    | false =>
      have : ¬ ∀ m ≤ n, p m = true := fun h => by simpa [h0] using h 0 (Nat.zero_le n)
      simp [this]
    | true =>
      cases n with
      | zero => simp [h0]
      | succ n =>
        have hshift : (∀ m ≤ n + 1, p m = true) ↔ ∀ m ≤ n, p (m + 1) = true := by
          refine ⟨fun h m hm => h (m + 1) (by omega), fun h m hm => ?_⟩
          cases m with
          | zero => exact h0
          | succ m => exact h m (by omega)
        simp [ih, hshift]

/-- Settles O56: `takeWhile` ends the walk at the sentinel, `filter` keeps the entries that cover the scanline. -/
theorem spritesOnAScanlineByTheirYBytes : Obligations.SpritesOnAScanlineByTheirYBytes := by
  intro bias y r rd Y top extent
  have hY (n : Nat) : (rd (r.attributeAddress n 0)).toNat = Y n := by rw [attributeAddress_eq]; rfl
  refine ⟨(List.pairwise_lt_range.sublist (List.takeWhile_sublist _)).filter _, fun n => ?_⟩
  have hsentinel (m : Nat) : decide (rd (r.attributeAddress m 0) ≠ spriteSentinel) = true ↔ Y m ≠ 0xD0 := by
    rw [decide_eq_true_iff, ← hY, ne_eq, ne_eq, ← BitVec.toNat_inj]
    rfl
  have hintersects : spriteIntersects bias r y (rd (r.attributeAddress n 0)) = true ↔
      top n ≤ (y : Int) ∧ (y : Int) < top n + (extent : Int) := by
    simp only [spriteIntersects, spriteTop, hY, Bool.and_eq_true, decide_eq_true_iff]
    rfl
  simp only [spritesOn, List.mem_filter, mem_takeWhile_range, hsentinel, hintersects, and_assoc]
  rfl

end Sys2Proof.Machine

/-! Steps and runs in the forms used below: the state after an event has left the trace, and runs of several steps. -/

namespace Sys2Proof.Machine

theorem State.advance_of_trace {s : State} {ev : Event} {rest : List Event} (h : s.trace = ev :: rest) :
    s.advance = { s with trace := rest } := by
  simp [State.advance, h]

/-- A move of the render agent is the next atomic action of the scanline in progress. -/
theorem step_of_action {s : State} {task : LineTask} {rest : List Event} (htrace : s.trace = .renderNext :: rest)
    (htask : s.render = some task) (hphase : task.phase ≠ .dispatch) :
    step s = .next (renderAction task { s with trace := rest }) :=
  State.advance_of_trace htrace ▸ step_of_renderNext_action htrace htask hphase

/-- A run goes on after a step that answers. -/
theorem run_succ_of_step {s u : State} (h : step s = .next u) (k : Nat) : core.run (k + 1) s = core.run k u := by
  simp only [Host.Core.run, core, h]

/-- A run goes on after a run that answers. -/
theorem run_add_of_run {m : Nat} {u : State} (k : Nat) :
    ∀ {s : State}, core.run m s = .next u → core.run (m + k) s = core.run k u := by
  induction m with
  | zero =>
    intro s h
    obtain rfl : s = u := Host.Outcome.next.inj h
    rw [Nat.zero_add]
  | succ m ih =>
    intro s h
    cases hstep : step s with
    | next v => rw [Nat.succ_add, run_succ_of_step hstep, ih (run_succ_of_step hstep m ▸ h)]
    | fault r => simp [Host.Core.run, core, hstep] at h
    | refused r => simp [Host.Core.run, core, hstep] at h

end Sys2Proof.Machine

/-! Rendering leaves the port side alone. -/

namespace Sys2Proof.Machine

/-- Settles O44. The step is the same with the access state replaced by itself (O45), so it leaves the access state; the
registers and VRAM change only by accesses that are not among its events (O42, O43). -/
theorem renderingLeavesThePortSideAlone : Obligations.RenderingLeavesThePortSideAlone := by
  intro s t ev rest htrace hleaves h
  have hsame : step s = .next (t.withAccessState s.address s.mode s.latched s.latchByte) :=
    renderingDoesNotDependOnTheAccessState s t ev rest s.address s.mode s.latched s.latchByte htrace hleaves h
  obtain ⟨u, rfl⟩ : ∃ u : State, t = u.withAccessState s.address s.mode s.latched s.latchByte :=
    ⟨t, Host.Outcome.next.inj (h.symm.trans hsame)⟩
  refine ⟨rfl, rfl, rfl, rfl, ?_, ?_⟩
  · by_contra hregs
    obtain ⟨rest', htrace' | ⟨v, e, htrace', -⟩⟩ := registersChangeOnlyByRegisterWriteOrReset s _ h hregs <;>
      obtain ⟨rfl, -⟩ := List.cons.inj (htrace.symm.trans htrace') <;> cases hleaves
  · by_contra hvram
    obtain ⟨v, e, rest', htrace'⟩ := vramChangesOnlyByWriteData s _ h hvram
    obtain ⟨rfl, -⟩ := List.cons.inj (htrace.symm.trans htrace')
    cases hleaves

end Sys2Proof.Machine

/-! The start of a scanline and its register sample, and runs of the render agent with no port operation in between. -/

namespace Sys2Proof.Machine

theorem step_lineStart {s : State} {index : Nat} (g : Granularity) (rest : List Event) (hindex : index < activeHeight)
    (htask : s.render = none) :
    step { s with trace := .lineStart index g :: rest } =
      .next { s with trace := rest, render := some (newLine index g s.regs) } := by
  have htask' : ¬ s.render.isSome = true := by simp [htask]
  rw [step_of_lineStart rfl]
  exact (if_neg (Nat.not_le.mpr hindex)).trans (if_neg htask')

/-- Register `n` is read into the sample (R52, R114). -/
theorem step_sampling {s : State} {task : LineTask} {n : Nat} {rest : List Event}
    (htrace : s.trace = .renderNext :: rest) (htask : s.render = some task) (hphase : task.phase = .sampling n)
    (hn : n < 8) :
    step s = .next { s with
      trace := rest
      render := some { task with
        sample := task.sample.set (BitVec.ofNat 3 n) (s.regs.get (BitVec.ofNat 3 n))
        phase := if n = 7 then .dispatch else .sampling (n + 1) } } := by
  have hnext : (if n + 1 < registerCount then LinePhase.sampling (n + 1) else .dispatch) =
      if n = 7 then .dispatch else .sampling (n + 1) := by
    by_cases h7 : n = 7
    · rw [if_pos h7, if_neg (by simp [h7, registerCount])]
    · rw [if_neg h7, if_pos (by simp only [registerCount]; omega)]
  rw [step_of_action htrace htask (by simp [hphase]), renderAction, hphase, ← hnext]
  rfl

/-- The state `s` with the trace `rest`, the scanline `p.1` in progress and the status register `p.2`: what moves of the
render agent between `lineStart` and the return can change. -/
def State.withLine (s : State) (rest : List Event) (p : LineTask × Byte) : State :=
  { s with trace := rest, render := some p.1, status := p.2 }

/-- `n` moves of the render agent, with no port operation in between, take the scanline and the status register `p` to
`q`. -/
def Moves (s : State) (n : Nat) (p q : LineTask × Byte) : Prop :=
  ∀ rest, core.run n (s.withLine (List.replicate n .renderNext ++ rest) p) = .next (s.withLine rest q)

section

variable {s : State} {p q u : LineTask × Byte} {m n : Nat}

theorem Moves.refl (s : State) (p : LineTask × Byte) : Moves s 0 p p := fun _ => rfl

theorem Moves.trans (hpq : Moves s m p q) (hqu : Moves s n q u) : Moves s (m + n) p u := by
  intro rest
  rw [List.replicate_add, List.append_assoc, run_add_of_run n (hpq _), hqu]

theorem moves_one_of_step (h : ∀ rest, step (s.withLine (.renderNext :: rest) p) = .next (s.withLine rest q)) :
    Moves s 1 p q := fun rest => run_succ_of_step (h rest) 0

end

/-- The first `k` registers of `r` read into the sample `q`. -/
def sampledTo (r q : RegFile) (k : Nat) : RegFile :=
  (List.range k).foldl (fun t n => t.set (BitVec.ofNat 3 n) (r.get (BitVec.ofNat 3 n))) q

/-- The sample, byte by byte: `k` moves read the first `k` registers. -/
theorem moves_sampling (s : State) (task : LineTask) (st : Byte) (hphase : task.phase = .sampling 0) {k : Nat}
    (hk : k ≤ 8) :
    Moves s k (task, st)
      ({ task with
        sample := sampledTo s.regs task.sample k
        phase := if k = 8 then .dispatch else .sampling k }, st) := by
  induction k with
  | zero =>
    have hstart : task = { task with
        sample := sampledTo s.regs task.sample 0
        phase := if (0 : Nat) = 8 then .dispatch else .sampling 0 } := by
      rw [if_neg (by decide), ← hphase]; rfl
    rw [← hstart]
    exact Moves.refl s (task, st)
  | succ k ih =>
    refine (ih (by omega)).trans (moves_one_of_step fun rest => ?_)
    rw [step_sampling rfl rfl (if_neg (by omega)) (by omega)]
    simp [State.withLine, sampledTo, List.range_succ]

/-- Undisturbed, eight moves make the sample the register file (R114). -/
theorem moves_newLine (s : State) (index : Nat) (st : Byte) :
    Moves s 8 (newLine index .byByte s.regs, st)
      ({ index := index, sample := s.regs, granularity := .byByte, phase := .dispatch, row := [] }, st) := by
  have hsample : sampledTo s.regs .unread 8 = s.regs := RegFile.set_every s.regs .unread
  have h := moves_sampling s (newLine index .byByte s.regs) st rfl (Nat.le_refl 8)
  simpa only [newLine, hsample, if_true] using h

/-- Settles O7: `step_lineStart` with the eight moves of `moves_newLine`, and `step_sampling` for a single one. -/
theorem lineStartTakesTheRegisterSample : Obligations.LineStartTakesTheRegisterSample := by
  intro s index g rest start
  refine ⟨?_, ?_, ?_, ?_, ?_⟩
  · rintro hindex htask rfl
    exact step_lineStart _ _ hindex htask
  · rintro hindex htask rfl
    refine ⟨⟨.unread, step_lineStart _ _ hindex htask⟩, ?_⟩
    rw [run_succ_of_step (step_lineStart _ _ hindex htask) 8]
    exact moves_newLine s index s.status []
  · intro t n htask hphase hn
    refine ⟨_, step_sampling rfl htask hphase hn, RegFile.get_set_same .., fun _ => RegFile.get_set_other _ _⟩
  · intro hindex
    rw [step_of_lineStart rfl]
    exact if_pos hindex
  · intro hindex htask
    rw [step_of_lineStart rfl]
    exact (if_neg (Nat.not_le.mpr hindex)).trans (if_pos (Option.isSome_iff_ne_none.mpr htask))

end Sys2Proof.Machine

/-! One step in a plane: which byte it reads, and which pixels it places. -/

namespace Sys2Proof.Machine

section

variable {s : State} {task : LineTask} {rest : List Event} {m : DisplayMode} {c : Nat} {got : List Byte}

/-- A byte of a cell that is not its last is read. -/
theorem step_plane_reads (htrace : s.trace = .renderNext :: rest) (htask : s.render = some task)
    (hphase : task.phase = .plane m c got) (hmore : got.length + 1 < readsPerCell m) :
    step s = .next { s with
      trace := rest
      render := some { task with
        phase := .plane m c (got ++ [s.memRead (cellReadAddress m task.index c task.sample got)]) } } := by
  rw [step_of_action htrace htask (by simp [hphase]), renderAction, hphase]
  simp only [planeAction, List.length_append, List.length_singleton, hmore, if_true]
  rfl

/-- The last byte of a cell is read and its pixels are placed; the next cell comes, or the end of the plane. -/
theorem step_plane_places (htrace : s.trace = .renderNext :: rest) (htask : s.render = some task)
    (hphase : task.phase = .plane m c got) (hlast : readsPerCell m = got.length + 1) :
    let bytes := got ++ [s.memRead (cellReadAddress m task.index c task.sample got)]
    let row := task.row ++ cellPixels m task.sample bytes
    step s = .next { s with
      trace := rest
      render := some (if c + 1 < cellsPerRow m then { task with phase := .plane m (c + 1) [], row := row }
        else endPlane m { task with row := row }) } := by
  rw [step_of_action htrace htask (by simp [hphase]), renderAction, hphase]
  simp only [planeAction, List.length_append, List.length_singleton, hlast, lt_irrefl, if_false]
  split <;> rfl

end

/-- Every plane but Blank reads a name and at least one more byte for a cell. -/
theorem one_lt_readsPerCell {m : DisplayMode} (hm : m ≠ .blank) : 1 < readsPerCell m := by
  cases m with
  | blank => exact absurd rfl hm
  | text | graphicsI | graphicsII | multicolor => decide

/-- The name-table entry of a cell (R13, R70). -/
theorem nameAddress_eq (r : RegFile) (stride y c : Nat) :
    r.nameAddress stride y c = r.r2.toNat % 16 * 0x400 + y / 8 * stride + c := by
  simp [RegFile.nameAddress, RegFile.nameTable, Nat.shiftLeft_eq]

/-- A byte of a pattern at the base PG (R15, R71). -/
theorem patternAddress_eq (r : RegFile) (name : Byte) (line : Nat) :
    glyphAddress r.patternTable name line = r.r4.toNat % 8 * 0x800 + name.toNat * 8 + line := by
  simp [glyphAddress, RegFile.patternTable, Nat.shiftLeft_eq]

/-- The colour byte of a glyph in Graphics I (R14, R72). -/
theorem colourAddress_eq (r : RegFile) (name : Byte) :
    r.colourAddress name = r.r3.toNat * 0x40 + name.toNat / 8 := by
  simp [RegFile.colourAddress, RegFile.colourTable, Nat.shiftLeft_eq, Nat.shiftRight_eq_div_pow]

/-- The offset of third `t` of the picture, where the two bits of a register let it through (R131). -/
def thirdOffset (t : Nat) (one two : Bool) : Nat :=
  if t = 1 ∧ one = true then 0x0800 else if t = 2 ∧ two = true then 0x1000 else 0

theorem and_shiftLeft_eq_thirdOffset {t : Nat} (ht : t < 3) (b : BitVec 2) :
    (t &&& b.toNat) <<< 11 = thirdOffset t (b.getLsbD 0) (b.getLsbD 1) := by
  revert b t; decide

/-- The pattern base of third `t` in Graphics II (R131). -/
theorem patternBase2_eq (r : RegFile) {t : Nat} (ht : t < 3) :
    r.patternBase2 t =
      (if r.r4.getLsbD 2 then 0x2000 else 0) + thirdOffset t (r.r4.getLsbD 0) (r.r4.getLsbD 1) := by
  have hhigh : ∀ b : Byte, (b &&& 0x04).toNat <<< 11 = if b.getLsbD 2 then 0x2000 else 0 := by decide +kernel
  rw [RegFile.patternBase2, hhigh, and_shiftLeft_eq_thirdOffset ht, BitVec.getLsbD_extractLsb',
    BitVec.getLsbD_extractLsb']
  rfl

/-- The colour base of third `t` in Graphics II (R131). -/
theorem colourBase2_eq (r : RegFile) {t : Nat} (ht : t < 3) :
    r.colourBase2 t =
      (if r.r3.getLsbD 7 then 0x2000 else 0) + thirdOffset t (r.r3.getLsbD 5) (r.r3.getLsbD 6) := by
  have hhigh : ∀ b : Byte, (b &&& 0x80).toNat <<< 6 = if b.getLsbD 7 then 0x2000 else 0 := by decide +kernel
  rw [RegFile.colourBase2, hhigh, and_shiftLeft_eq_thirdOffset ht, BitVec.getLsbD_extractLsb',
    BitVec.getLsbD_extractLsb']
  rfl

/-- The pixels of a cell in the Graphics modes: bit 7 leftmost, 1 the high nibble's colour (R44, R115). -/
theorem colouredCell_eq_map (r : RegFile) (pat col : Byte) :
    colouredCell r pat col =
      (List.range 8).map fun k => r.resolve (if pat.getLsbD (7 - k) then hiNibble col else loNibble col) := by
  simp only [colouredCell, patternPixels, apply_ite r.resolve]

/-- The pixels of a Multicolor cell: the left block is the high nibble's colour (R135). -/
theorem blockCell_eq_map (r : RegFile) (b : Byte) :
    blockCell r b = (List.range 8).map fun k => r.resolve (if k < 4 then hiNibble b else loNibble b) := rfl

/-- Settles O58: `step_plane_reads` and `step_plane_places` with the addresses and the pixels of each plane. -/
theorem planeStepReadsItsNextByte : Obligations.PlaneStepReadsItsNextByte := by
  intro s t rest m c got htrace htask hphase hindex y r bd resolve third patBase colBase names patterns goesOnAs reads
    places
  have hthird : y / 64 < 3 := by omega
  have hreads (hmore : got.length + 1 < readsPerCell m) {a : Nat} (ha : cellReadAddress m y c r got = a) : reads a :=
    ha ▸ step_plane_reads htrace htask hphase hmore
  have hplaces (hlast : readsPerCell m = got.length + 1) (hm : m ≠ .blank) {pixel : Nat → Colour}
      (hpixels : cellPixels m r (got ++ [s.memRead (cellReadAddress m y c r got)]) =
        (List.range (if m = .text then 6 else 8)).map pixel) : places (cellsPerRow m) pixel := by
    have h := step_plane_places htrace htask hphase hlast
    simp only [places, ← hpixels]
    by_cases hc : c + 1 < cellsPerRow m
    · simpa only [hc, if_true] using h
    · simp only [hc, if_false] at h ⊢
      cases m with
      | blank => exact absurd rfl hm
      | text | graphicsI | graphicsII | multicolor => exact h
  refine ⟨?_, ?_, ?_, ?_⟩
  · rintro rfl
    refine ⟨?_, ?_, ?_⟩
    · rintro rfl
      exact hreads (by decide) (nameAddress_eq r 32 y c)
    · rintro name rfl
      exact hreads (by simp [readsPerCell]) (patternAddress_eq r name (y % 8))
    · rintro name pat rfl col
      refine hplaces rfl (by decide) ?_
      have hcol : s.memRead (cellReadAddress .graphicsI y c r [name, pat]) = col :=
        congrArg s.memRead (colourAddress_eq r name)
      rw [hcol]
      exact colouredCell_eq_map r pat col
  · rintro rfl
    refine ⟨?_, ?_, ?_⟩
    · rintro rfl
      exact hreads (by decide) (nameAddress_eq r 32 y c)
    · rintro name rfl
      exact hreads (by simp [readsPerCell]) (congrArg (glyphAddress · name (y % 8)) (patternBase2_eq r hthird))
    · rintro name pat rfl col
      refine hplaces rfl (by decide) ?_
      have hcol : s.memRead (cellReadAddress .graphicsII y c r [name, pat]) = col :=
        congrArg (fun base => s.memRead (glyphAddress base name (y % 8))) (colourBase2_eq r hthird)
      rw [hcol]
      exact colouredCell_eq_map r pat col
  · rintro rfl
    refine ⟨?_, ?_⟩
    · rintro rfl
      exact hreads (by decide) (nameAddress_eq r 32 y c)
    · rintro name rfl b
      refine hplaces rfl (by decide) ?_
      have hb : s.memRead (cellReadAddress .multicolor y c r [name]) = b :=
        congrArg s.memRead (patternAddress_eq r name (subRow y))
      rw [hb]
      exact blockCell_eq_map r b
  · rintro rfl
    refine ⟨?_, ?_⟩
    · rintro rfl
      exact hreads (by decide) (nameAddress_eq r 40 y c)
    · rintro name rfl pat
      refine hplaces rfl (by decide) ?_
      have hpat : s.memRead (cellReadAddress .text y c r [name]) = pat :=
        congrArg s.memRead (patternAddress_eq r name (y % 8))
      rw [hpat]
      rfl

end Sys2Proof.Machine

/-! A port write just before a read of the render agent. -/

namespace Sys2Proof.Machine

/-- What a render agent finds in VRAM after WriteData (R90, R52). -/
theorem writeData_memRead {s : State} (hwf : s.vramWf = true) (v : Byte) (a : Nat) :
    (writeData v s).memRead a = if a % s.vramBytes = s.address.toNat % s.vramBytes then v else s.memRead a := by
  have hsplit : (writeData v s).memRead a = (s.memWrite s.address.toNat v).memRead a := by
    unfold writeData; split <;> rfl
  rw [hsplit]
  split
  · rename_i hsame
    have hread (x : Nat) (hx : x % s.vramBytes = a % s.vramBytes) :
        (s.memWrite s.address.toNat v).memRead a = (s.memWrite s.address.toNat v).memRead x := by
      simp only [State.memRead, State.memWrite_vramBytes, hx]
    rw [hread _ hsame.symm, State.memRead_memWrite_same hwf]
  · rename_i hother
    exact State.memRead_memWrite_other s v hother

theorem writeData_trace (v : Byte) (s : State) : (writeData v s).trace = s.trace := by
  unfold writeData; split <;> rfl

theorem writeData_render (v : Byte) (s : State) : (writeData v s).render = s.render := by
  unfold writeData; split <;> rfl

/-- Bits 7:6 equal to 10 make a second command byte a register write; bits 2:0 name the register (R62). -/
theorem decodeSecondByte_of_registerClass {v : Byte} (h : v &&& 0xC0 = 0x80) (e : Nat) :
    decodeSecondByte v e = .regw (v.extractLsb' 0 3) (v.extractLsb' 3 3) e := by
  have hclass : ∀ v : Byte, v &&& 0xC0 = 0x80 → (v.extractLsb' 6 2).toNat = 2 := by decide +kernel
  simp only [decodeSecondByte, hclass v h]

/-- WriteData comes next and passes the gate, the validator being absent. -/
theorem step_dataWrite {s : State} (habsent : s.params.validator = .absent) (v : Byte) (e : Nat) (rest : List Event) :
    step { s with trace := .op (.dataWrite v e) :: rest } = .next (writeData v { s with trace := rest }) := by
  rw [step_of_op rfl rfl]
  exact timed_of_absent habsent

/-- The second byte of a register write comes next and passes the gate, the validator being absent. -/
theorem step_registerWrite {s : State} {v : Byte} (habsent : s.params.validator = .absent) (hlatched : s.latched = true)
    (hclass : v &&& 0xC0 = 0x80) (e : Nat) (rest : List Event) :
    step { s with trace := .op (.commandWrite v e) :: rest } =
      .next (registerWrite (v.extractLsb' 0 3) { s with trace := rest }) := by
  have hdecode : decodeAccess s.latched (.commandWrite v e) =
      .ok (.regw (v.extractLsb' 0 3) (v.extractLsb' 3 3) e) := by
    simp only [decodeAccess, hlatched, if_true, decodeSecondByte_of_registerClass hclass]
  have hgate : exec (.regw (v.extractLsb' 0 3) (v.extractLsb' 3 3) e) { s with trace := rest } =
      .next (registerWrite (v.extractLsb' 0 3) { s with trace := rest }) :=
    timed_of_absent (s := { s with trace := rest }) habsent
  rw [← hgate]
  exact step_of_op rfl hdecode

theorem registerWrite_trace (reg : BitVec 3) (s : State) : (registerWrite reg s).trace = s.trace := by
  rw [registerWrite_eq]

theorem registerWrite_render (reg : BitVec 3) (s : State) : (registerWrite reg s).render = s.render := by
  rw [registerWrite_eq]

theorem registerWrite_regs (reg : BitVec 3) (s : State) :
    (registerWrite reg s).regs = s.regs.set reg s.latchByte := by
  rw [registerWrite_eq]

/-- Bits 2:0 of a second byte name register `n` (R62). -/
theorem registerNumber_eq_iff (v : Byte) {n : Nat} (hn : n < 8) :
    v.extractLsb' 0 3 = BitVec.ofNat 3 n ↔ v.toNat % 8 = n := by
  rw [← BitVec.toNat_inj]
  simp [Nat.mod_eq_of_lt hn]

/-- Settles O60: the port operation runs, and the next step of the render agent reads the state that it left. -/
theorem renderReadSeesTheLatestWrite : Obligations.RenderReadSeesTheLatestWrite := by
  intro s t rest v e htask habsent
  constructor
  · intro m c hwf hphase hm a b
    let s1 : State := { s with trace := .renderNext :: rest }
    have haddress : cellReadAddress m t.index c t.sample [] = a := by
      cases m with
      | blank => exact absurd rfl hm
      | text | graphicsI | graphicsII | multicolor => exact nameAddress_eq ..
    have hbyte : (writeData v s1).memRead (cellReadAddress m t.index c t.sample []) = b :=
      haddress ▸ writeData_memRead (s := s1) hwf v a
    have hread := step_plane_reads (writeData_trace v s1) ((writeData_render v s1).trans htask) hphase
      (one_lt_readsPerCell hm)
    rw [hbyte] at hread
    exact ⟨_, (run_succ_of_step (step_dataWrite habsent v e _) 1).trans (run_succ_of_step hread 0), rfl⟩
  · intro n hphase hn hlatched hclass
    let s1 : State := { s with trace := .renderNext :: rest }
    have hread := step_sampling (s := registerWrite (v.extractLsb' 0 3) s1) (registerWrite_trace ..)
      ((registerWrite_render ..).trans htask) hphase hn
    have hwrite := step_registerWrite habsent hlatched hclass e (.renderNext :: rest)
    refine ⟨_, _, (run_succ_of_step hwrite 1).trans (run_succ_of_step hread 0), rfl, ?_,
      fun _ => RegFile.get_set_other _ _⟩
    rw [registerWrite_regs]
    rw [RegFile.get_set_same]
    split
    · rename_i hsame
      exact (registerNumber_eq_iff v hn).mpr hsame ▸ RegFile.get_set_same ..
    · rename_i hother
      exact RegFile.get_set_other _ _ fun hreg => hother ((registerNumber_eq_iff v hn).mp hreg.symm)

end Sys2Proof.Machine

/-! One step in the sprite walk and in the overlay. -/

namespace Sys2Proof.Machine

/-- The update for a fifth sprite, S5 and FSN written out (R150). -/
theorem recordFifth_eq (n : Nat) (st : Byte) :
    recordFifth n st = if st.getLsbD 6 then st else (st &&& 0xA0) ||| 0x40 ||| BitVec.ofNat 8 (n % 32) := by
  have hfsn : (BitVec.ofNat 5 n).setWidth 8 = BitVec.ofNat 8 (n % 32) := by
    apply BitVec.eq_of_toNat_eq
    simp
  rw [recordFifth, hfsn]
  rfl

/-- A sprite's lines cover scanline `y` from its first scanline on, one extent long (R147 to R149). -/
theorem spriteIntersects_iff (bias : Int) (r : RegFile) (y : Nat) (Y : Byte) :
    spriteIntersects bias r y Y = true ↔
      spriteTop bias Y ≤ (y : Int) ∧ (y : Int) < spriteTop bias Y + (r.spriteExtent : Int) := by
  simp only [spriteIntersects, Bool.and_eq_true, decide_eq_true_iff]

theorem beginOverlay_eq_ite (n count : Nat) (occupied : List Bool) (colour : Colour) (columns : List Nat) :
    beginOverlay n count occupied colour columns =
      if columns = [] then afterEntry n count occupied else .overlay n count occupied colour columns := by
  cases columns <;> rfl

section

variable {s : State} {task : LineTask} {n count : Nat} {occupied : List Bool} {Y X name attr left right : Byte}

/-- The Y byte read is the sentinel (R146). -/
theorem spriteYAction_sentinel (hY : s.memRead (task.sample.attributeAddress n 0) = spriteSentinel) :
    spriteYAction n count occupied task s = s.setRender (some { task with phase := .drawn }) :=
  if_pos hY

/-- The Y byte read is that of a sprite off the scanline (R149). -/
theorem spriteYAction_off (hY : s.memRead (task.sample.attributeAddress n 0) = Y) (hend : Y ≠ spriteSentinel)
    (hoff : ¬ spriteIntersects s.params.spriteYBias task.sample task.index Y = true) :
    spriteYAction n count occupied task s = s.setRender (some { task with phase := afterEntry n count occupied }) := by
  subst hY
  exact (if_neg hend).trans (if_pos (by simp [hoff]))

/-- The Y byte read is that of a fifth sprite on the scanline (R150). -/
theorem spriteYAction_fifth (hY : s.memRead (task.sample.attributeAddress n 0) = Y) (hend : Y ≠ spriteSentinel)
    (hon : spriteIntersects s.params.spriteYBias task.sample task.index Y = true) (hfull : count = spritesPerLine) :
    spriteYAction n count occupied task s =
      (s.setRender (some { task with phase := .drawn })).setStatus (recordFifth n s.status) := by
  subst hY
  exact (if_neg hend).trans ((if_neg (by simp [hon])).trans (if_pos hfull))

/-- The Y byte read is that of one of the first four sprites on the scanline (R149). -/
theorem spriteYAction_on (hY : s.memRead (task.sample.attributeAddress n 0) = Y) (hend : Y ≠ spriteSentinel)
    (hon : spriteIntersects s.params.spriteYBias task.sample task.index Y = true) (hfew : count ≠ spritesPerLine) :
    spriteYAction n count occupied task s =
      s.setRender (some { task with phase := .sprite n (count + 1) occupied [Y] }) := by
  subst hY
  exact (if_neg hend).trans ((if_neg (by simp [hon])).trans (if_neg hfew))

/-- The byte read gives the entry colour 0 (R152). -/
theorem spriteAction_transparent (hattr : s.memRead (task.sample.attributeAddress n 3) = attr)
    (hcolour : attrColour attr = 0) :
    spriteAction n count occupied [Y, X, name] task s =
      s.setRender (some { task with phase := afterEntry n count occupied }) := by
  subst hattr
  exact if_pos hcolour

/-- The byte read gives the entry another colour (R152). -/
theorem spriteAction_opaque (hattr : s.memRead (task.sample.attributeAddress n 3) = attr)
    (hcolour : attrColour attr ≠ 0) :
    spriteAction n count occupied [Y, X, name] task s =
      s.setRender (some { task with phase := .sprite n count occupied [Y, X, name, attr] }) := by
  subst hattr
  exact if_neg hcolour

/-- The pattern byte of a double-size sprite's left half is read: the right half comes next (R151). -/
theorem spriteAction_leftHalf
    (hleft : s.memRead (task.sample.spriteLeftAddress name
      (spriteLine s.params.spriteYBias task.sample task.index Y)) = left) (hsize : task.sample.spriteSize = 16) :
    spriteAction n count occupied [Y, X, name, attr] task s =
      s.setRender (some { task with phase := .sprite n count occupied [Y, X, name, attr, left] }) := by
  subst hleft
  exact if_pos hsize

/-- The one pattern byte of a single-size sprite is read: its pixels come next (R151). -/
theorem spriteAction_onlyHalf
    (hleft : s.memRead (task.sample.spriteLeftAddress name
      (spriteLine s.params.spriteYBias task.sample task.index Y)) = left) (hsize : task.sample.spriteSize ≠ 16) :
    spriteAction n count occupied [Y, X, name, attr] task s =
      s.setRender (some { task with
        phase := beginOverlay n count occupied (attrColour attr)
          (spriteDeviceColumns task.sample X attr left 0) }) := by
  subst hleft
  exact if_neg hsize

/-- The pattern byte of a double-size sprite's right half is read: its pixels come next (R151). -/
theorem spriteAction_rightHalf
    (hright : s.memRead (task.sample.spriteRightAddress name
      (spriteLine s.params.spriteYBias task.sample task.index Y)) = right) :
    spriteAction n count occupied [Y, X, name, attr, left] task s =
      s.setRender (some { task with
        phase := beginOverlay n count occupied (attrColour attr)
          (spriteDeviceColumns task.sample X attr left right) }) := by
  subst hright
  rfl

end

/-- Settles O59: each step is `spriteAction` or `overlayAction`, with the addresses of the entry's bytes. -/
theorem spriteStepReadsItsNextByte : Obligations.SpriteStepReadsItsNextByte := by
  intro s t rest n count occupied htrace htask r entry size scale top pattern line follows draws goesOnAs enters
  have hbyte (k : Nat) : s.memRead (t.sample.attributeAddress n k) = s.memRead (entry + k) :=
    congrArg s.memRead (attributeAddress_eq r n k)
  have hleft (name Y : Byte) :
      s.memRead (r.spriteLeftAddress name (spriteLine s.params.spriteYBias r t.index Y)) =
        s.memRead (pattern name + line Y) :=
    congrArg s.memRead (spritePatternByte_eq r name (line Y))
  have hright (name Y : Byte) :
      s.memRead (r.spriteRightAddress name (spriteLine s.params.spriteYBias r t.index Y)) =
        s.memRead (pattern name + 16 + line Y) :=
    congrArg s.memRead ((spritePatternByte_eq r name (16 + line Y)).trans (Nat.add_assoc ..).symm)
  have hdraws (occ : List Bool) (colour : Colour) (columns : List Nat) :
      beginOverlay n count occ colour columns = draws occ colour columns := beginOverlay_eq_ite ..
  have hstep {got : List Byte} {u : State} (hphase : t.phase = .sprite n count occupied got)
      (haction : spriteAction n count occupied got t { s with trace := rest } = u) : step s = .next u := by
    rw [step_of_action htrace htask (by simp [hphase]), renderAction, hphase, ← haction]
  refine ⟨?_, ?_, ?_, ?_, ?_, ?_, ?_⟩
  · intro hphase Y
    have hcovers : spriteIntersects s.params.spriteYBias t.sample t.index Y = true ↔
        top Y ≤ (t.index : Int) ∧ (t.index : Int) < top Y + ((size * scale : Nat) : Int) := spriteIntersects_iff ..
    rw [← recordFifth_eq]
    split
    · rename_i hend
      exact hstep hphase (spriteYAction_sentinel ((hbyte 0).trans hend))
    · rename_i hend
      split
      · rename_i hoff
        exact hstep hphase (spriteYAction_off (hbyte 0) hend (hcovers.not.mpr hoff))
      · rename_i hon
        split
        · rename_i hfull
          exact hstep hphase (spriteYAction_fifth (hbyte 0) hend (hcovers.mpr (not_not.mp hon)) hfull)
        · rename_i hfew
          exact hstep hphase (spriteYAction_on (hbyte 0) hend (hcovers.mpr (not_not.mp hon)) hfew)
  · intro Y hphase
    rw [← hbyte]
    exact hstep hphase rfl
  · intro Y X hphase
    rw [← hbyte]
    exact hstep hphase rfl
  · intro Y X name hphase attr
    split
    · rename_i hcolour
      exact hstep hphase (spriteAction_transparent (hbyte 3) hcolour)
    · rename_i hcolour
      exact hstep hphase (spriteAction_opaque (hbyte 3) hcolour)
  · intro Y X name attr hphase left
    rw [← hdraws]
    split
    · rename_i hsize
      exact hstep hphase (spriteAction_leftHalf (hleft name Y) hsize)
    · rename_i hsize
      exact hstep hphase (spriteAction_onlyHalf (hleft name Y) hsize)
  · intro Y X name attr left hphase right
    rw [← hdraws]
    exact hstep hphase (spriteAction_rightHalf (hright name Y))
  · intro colour dx columns hphase
    have h : step s = .next (overlayAction n count occupied colour (dx :: columns) t { s with trace := rest }) := by
      rw [step_of_action htrace htask (by simp [hphase]), renderAction, hphase]
    simp only [overlayAction, plot] at h
    split
    · rename_i hwritten
      rw [← hdraws]
      rw [if_pos hwritten] at h
      exact h
    · rename_i hfree
      rw [← hdraws]
      rw [if_neg hfree] at h
      exact h

end Sys2Proof.Machine

/-! The byte-by-byte scanline, undisturbed, against the whole scanline: the moves of the render agent through the plane
and through the sprites, and the row and the status register in which they end. -/

namespace Sys2Proof.Machine

/-- Some number of moves of the render agent, undisturbed, take `p` to `q`. -/
def Reaches (s : State) (p q : LineTask × Byte) : Prop := ∃ n, Moves s n p q

section

variable {s : State} {p q u : LineTask × Byte}

theorem Reaches.refl (s : State) (p : LineTask × Byte) : Reaches s p p := ⟨0, .refl s p⟩

theorem Reaches.trans (hpq : Reaches s p q) (hqu : Reaches s q u) : Reaches s p u := by
  obtain ⟨m, hm⟩ := hpq
  obtain ⟨n, hn⟩ := hqu
  exact ⟨m + n, hm.trans hn⟩

theorem reaches_of_step (h : ∀ rest, step (s.withLine (.renderNext :: rest) p) = .next (s.withLine rest q)) :
    Reaches s p q := ⟨1, moves_one_of_step h⟩

theorem reaches_of_action (hphase : p.1.phase ≠ .dispatch)
    (h : ∀ rest, renderAction p.1 (s.withLine rest p) = s.withLine rest q) : Reaches s p q :=
  reaches_of_step fun rest => (step_of_action rfl rfl hphase).trans (congrArg _ (h rest))

end

/-- The mode dispatch enters the plane of the sample's mode (R113). -/
theorem reaches_enterPlane (s : State) {task : LineTask} (st : Byte) (hphase : task.phase = .dispatch)
    (hgranularity : task.granularity = .byByte) :
    Reaches s (task, st) (enterPlane task.sample.modeOf task, st) := by
  refine reaches_of_step fun rest => ?_
  rw [step_of_renderNext_dispatch rfl rfl hphase]
  simp only [dispatchLine, State.withLine, State.advance_render, hphase, hgranularity, if_true]
  rfl

/-- The first `k` bytes read for cell `c`. -/
def cellBytes (m : DisplayMode) (y c : Nat) (r : RegFile) (rd : Nat → Byte) : Nat → List Byte
  | 0 => []
  | k + 1 => cellBytes m y c r rd k ++ [rd (cellReadAddress m y c r (cellBytes m y c r rd k))]

theorem length_cellBytes (m : DisplayMode) (y c : Nat) (r : RegFile) (rd : Nat → Byte) :
    ∀ k, (cellBytes m y c r rd k).length = k
  | 0 => rfl
  | k + 1 => by simp [cellBytes, length_cellBytes m y c r rd k]

/-- The pixels of the first `n` cells of a plane. -/
def planeCells (m : DisplayMode) (y : Nat) (r : RegFile) (rd : Nat → Byte) (n : Nat) : Row :=
  (List.range n).flatMap fun c => cellPixels m r (cellBytes m y c r rd (readsPerCell m))

theorem planeCells_succ (m : DisplayMode) (y : Nat) (r : RegFile) (rd : Nat → Byte) (n : Nat) :
    planeCells m y r rd (n + 1) =
      planeCells m y r rd n ++ cellPixels m r (cellBytes m y n r rd (readsPerCell m)) := by
  simp [planeCells, List.range_succ]

/-- The row of a plane, without its sprites. -/
def planeRow (m : DisplayMode) (y : Nat) (r : RegFile) (rd : Nat → Byte) : Row :=
  planeCells m y r rd (cellsPerRow m)

theorem textRow_eq_planeRow (y : Nat) (r : RegFile) (rd : Nat → Byte) :
    textRow y r rd = textMargin r ++ planeRow .text y r rd ++ textMargin r := rfl

/-! The planes that have sprites: every one but Blank and Text (R117). -/

section

variable {m : DisplayMode}

theorem enterPlane_of_sprites (hblank : m ≠ .blank) (htext : m ≠ .text) (task : LineTask) :
    enterPlane m task = { task with phase := .plane m 0 [], row := [] } := by
  cases m with
  | blank => exact absurd rfl hblank
  | text => exact absurd rfl htext
  | graphicsI | graphicsII | multicolor => rfl

theorem endPlane_of_sprites (hblank : m ≠ .blank) (htext : m ≠ .text) (task : LineTask) :
    endPlane m task = { task with phase := .sprite 0 0 noneOccupied [] } := by
  cases m with
  | blank => exact absurd rfl hblank
  | text => exact absurd rfl htext
  | graphicsI | graphicsII | multicolor => rfl

theorem scanlineIn_of_sprites (hblank : m ≠ .blank) (htext : m ≠ .text) (bias : Int) (y : Nat) (r : RegFile)
    (rd : Nat → Byte) (st : Byte) :
    scanlineIn m bias y r rd st = spriteRow bias y r rd (planeRow m y r rd) st := by
  cases m with
  | blank => exact absurd rfl hblank
  | text => exact absurd rfl htext
  | graphicsI | graphicsII | multicolor => rfl

end

section

variable (s : State) {task : LineTask} (st : Byte) {m : DisplayMode} {c : Nat}

/-- The bytes of a cell are read one after another. -/
theorem reaches_cellBytes (hphase : task.phase = .plane m c []) {k : Nat} (hk : k < readsPerCell m) :
    Reaches s (task, st)
      ({ task with phase := .plane m c (cellBytes m task.index c task.sample s.memRead k) }, st) := by
  induction k with
  | zero =>
    rw [cellBytes, ← hphase]
    exact .refl s (task, st)
  | succ k ih =>
    refine (ih (by omega)).trans (reaches_of_step fun rest => ?_)
    refine (step_plane_reads rfl rfl rfl (by rwa [length_cellBytes])).trans ?_
    rfl

/-- The scanline `task` with the next `n` cells of a plane drawn. -/
def afterCells (s : State) (task : LineTask) (m : DisplayMode) (n : Nat) : LineTask :=
  { task with
    phase := .plane m n []
    row := task.row ++ planeCells m task.index task.sample s.memRead n }

/-- A cell is drawn, and the next one comes, or the end of the plane. -/
theorem reaches_cell (hm : m ≠ .blank) (n : Nat) :
    Reaches s (afterCells s task m n, st)
      (if n + 1 < cellsPerRow m then afterCells s task m (n + 1) else endPlane m (afterCells s task m (n + 1)),
        st) := by
  obtain ⟨k, hk⟩ := Nat.exists_eq_add_one.mpr (Nat.zero_lt_of_lt (one_lt_readsPerCell hm))
  have hreads := reaches_cellBytes s (task := afterCells s task m n) (m := m) st rfl (k := k) (by omega)
  refine hreads.trans (reaches_of_step fun rest => ?_)
  refine (step_plane_places rfl rfl rfl (by rw [length_cellBytes, hk])).trans ?_
  simp only [afterCells, planeCells_succ, hk, cellBytes, ← List.append_assoc]
  cases m <;> rfl

/-- The cells of a plane are drawn one after another. -/
theorem reaches_afterCells (hphase : task.phase = .plane m 0 []) (hm : m ≠ .blank) {n : Nat}
    (hn : n < cellsPerRow m) :
    Reaches s (task, st) (afterCells s task m n, st) := by
  induction n with
  | zero =>
    rw [afterCells, ← hphase, planeCells, List.range_zero, List.flatMap_nil, List.append_nil]
    exact .refl s (task, st)
  | succ n ih =>
    have hcell := reaches_cell s (task := task) st hm n
    rw [if_pos hn] at hcell
    exact (ih (by omega)).trans hcell

theorem cellsPerRow_pos (hm : m ≠ .blank) : 0 < cellsPerRow m := by
  cases m with
  | blank => exact absurd rfl hm
  | text | graphicsI | graphicsII | multicolor => decide

/-- A plane is drawn to its end. -/
theorem reaches_endPlane (hphase : task.phase = .plane m 0 []) (hm : m ≠ .blank) :
    Reaches s (task, st)
      (endPlane m { task with row := task.row ++ planeRow m task.index task.sample s.memRead }, st) := by
  obtain ⟨n, hn⟩ := Nat.exists_eq_add_one.mpr (cellsPerRow_pos hm)
  have hcell := reaches_cell s (task := task) st hm n
  rw [if_neg (by omega : ¬ n + 1 < cellsPerRow m), ← hn] at hcell
  refine (reaches_afterCells s st hphase hm (n := n) (by omega)).trans ?_
  cases m <;> exact hcell

end

/-- The scanline `task` at `phase` with the canvas `cv`: its row, and the status register beside it. -/
def onCanvas (task : LineTask) (phase : LinePhase) (cv : Canvas) : LineTask × Byte :=
  ({ task with phase := phase, row := cv.row }, cv.status)

/-- The phase at entry `n`: the end of the scanline when the table is over (R145). -/
def entryPhase (n count : Nat) (occupied : List Bool) : LinePhase :=
  if n < spriteEntries then .sprite n count occupied [] else .drawn

theorem afterEntry_eq_entryPhase (n count : Nat) (occupied : List Bool) :
    afterEntry n count occupied = entryPhase (n + 1) count occupied := rfl

/-- The source bits of a sprite do not depend on the right half in single size (R151). -/
theorem spriteDeviceColumns_of_single {r : RegFile} (hsize : r.spriteSize ≠ 16) (X attr left right right' : Byte) :
    spriteDeviceColumns r X attr left right = spriteDeviceColumns r X attr left right' := by
  simp only [spriteDeviceColumns, sourceBits, if_neg hsize]

section

variable (s : State) (task : LineTask)

/-- The pixels of an entry are written one after another (R153). -/
theorem reaches_plotAll (n count : Nat) (colour : Colour) : ∀ (columns : List Nat) (cv : Canvas),
    Reaches s (onCanvas task (beginOverlay n count cv.occupied colour columns) cv)
      (onCanvas task (afterEntry n count (plotAll colour columns cv).occupied) (plotAll colour columns cv))
  | [], _ => .refl ..
  | dx :: columns, cv => by
    have hplot : Reaches s (onCanvas task (beginOverlay n count cv.occupied colour (dx :: columns)) cv)
        (onCanvas task (beginOverlay n count (plot colour dx cv).occupied colour columns) (plot colour dx cv)) :=
      reaches_of_action (by simp [onCanvas, beginOverlay]) fun _ => rfl
    exact hplot.trans (reaches_plotAll n count colour columns (plot colour dx cv))

/-- One of the first four sprites on the scanline is drawn from its X byte on (R151 to R153, R157). -/
theorem reaches_drawSprite (n count : Nat) (Y : Byte) (cv : Canvas) :
    let cv' := drawSprite s.params.spriteYBias task.index task.sample s.memRead n Y cv
    Reaches s (onCanvas task (.sprite n count cv.occupied [Y]) cv)
      (onCanvas task (afterEntry n count cv'.occupied) cv') := by
  let X := s.memRead (task.sample.attributeAddress n 1)
  let name := s.memRead (task.sample.attributeAddress n 2)
  let attr := s.memRead (task.sample.attributeAddress n 3)
  let line := spriteLine s.params.spriteYBias task.sample task.index Y
  let left := s.memRead (task.sample.spriteLeftAddress name line)
  let right := s.memRead (task.sample.spriteRightAddress name line)
  let columns := spriteDeviceColumns task.sample X attr left right
  have hX : Reaches s (onCanvas task (.sprite n count cv.occupied [Y]) cv)
      (onCanvas task (.sprite n count cv.occupied [Y, X]) cv) :=
    reaches_of_action (by simp [onCanvas]) fun _ => rfl
  have hname : Reaches s (onCanvas task (.sprite n count cv.occupied [Y, X]) cv)
      (onCanvas task (.sprite n count cv.occupied [Y, X, name]) cv) :=
    reaches_of_action (by simp [onCanvas]) fun _ => rfl
  refine hX.trans (hname.trans ?_)
  by_cases hcolour : attrColour attr = 0
  · have hsame : drawSprite s.params.spriteYBias task.index task.sample s.memRead n Y cv = cv := if_pos hcolour
    rw [hsame]
    exact reaches_of_action (by simp [onCanvas]) fun _ => spriteAction_transparent rfl hcolour
  have hplotAll : drawSprite s.params.spriteYBias task.index task.sample s.memRead n Y cv =
      plotAll (attrColour attr) columns cv := if_neg hcolour
  have hattr : Reaches s (onCanvas task (.sprite n count cv.occupied [Y, X, name]) cv)
      (onCanvas task (.sprite n count cv.occupied [Y, X, name, attr]) cv) :=
    reaches_of_action (by simp [onCanvas]) fun _ => spriteAction_opaque rfl hcolour
  have hpattern : Reaches s (onCanvas task (.sprite n count cv.occupied [Y, X, name, attr]) cv)
      (onCanvas task (beginOverlay n count cv.occupied (attrColour attr) columns) cv) := by
    by_cases hsize : task.sample.spriteSize = 16
    · have hleft : Reaches s (onCanvas task (.sprite n count cv.occupied [Y, X, name, attr]) cv)
          (onCanvas task (.sprite n count cv.occupied [Y, X, name, attr, left]) cv) :=
        reaches_of_action (by simp [onCanvas]) fun _ => spriteAction_leftHalf rfl hsize
      exact hleft.trans (reaches_of_action (by simp [onCanvas]) fun _ => spriteAction_rightHalf rfl)
    · simp only [columns, spriteDeviceColumns_of_single hsize X attr left right 0]
      exact reaches_of_action (by simp [onCanvas]) fun _ => spriteAction_onlyHalf rfl hsize
  rw [hplotAll]
  exact hattr.trans (hpattern.trans (reaches_plotAll s task n count (attrColour attr) columns cv))

/-- The walk of the entries from `n` on, `k` of them, ends in the canvas of `spriteWalk` (R145, R146, R150). -/
theorem reaches_spriteWalk : ∀ (k n count : Nat) (cv : Canvas), n + k = spriteEntries →
    Reaches s (onCanvas task (entryPhase n count cv.occupied) cv)
      (onCanvas task .drawn
        (spriteWalk s.params.spriteYBias task.index task.sample s.memRead (List.range' n k) count cv))
  | 0, n, count, cv, hn => by
    rw [entryPhase, if_neg (by omega)]
    exact .refl ..
  | k + 1, n, count, cv, hn => by
    rw [entryPhase, if_pos (by omega), List.range'_succ]
    simp only [spriteWalk]
    split
    · rename_i hend
      exact reaches_of_action (by simp [onCanvas]) fun _ => spriteYAction_sentinel hend
    rename_i hend
    split
    · rename_i hoff
      replace hoff : ¬ spriteIntersects s.params.spriteYBias task.sample task.index
        (s.memRead (task.sample.attributeAddress n 0)) = true := by simpa using hoff
      have hnext : Reaches s (onCanvas task (.sprite n count cv.occupied []) cv)
          (onCanvas task (entryPhase (n + 1) count cv.occupied) cv) :=
        reaches_of_action (by simp [onCanvas]) fun _ => spriteYAction_off rfl hend hoff
      exact hnext.trans (reaches_spriteWalk k (n + 1) count cv (by omega))
    rename_i hon
    replace hon : spriteIntersects s.params.spriteYBias task.sample task.index
      (s.memRead (task.sample.attributeAddress n 0)) = true := by simpa using hon
    split
    · rename_i hfull
      exact reaches_of_action (by simp [onCanvas]) fun _ => spriteYAction_fifth rfl hend hon hfull
    · rename_i hfew
      have hY : Reaches s (onCanvas task (.sprite n count cv.occupied []) cv)
          (onCanvas task (.sprite n (count + 1) cv.occupied [s.memRead (task.sample.attributeAddress n 0)]) cv) :=
        reaches_of_action (by simp [onCanvas]) fun _ => spriteYAction_on rfl hend hon hfew
      exact hY.trans ((reaches_drawSprite s task n (count + 1) _ cv).trans
        (reaches_spriteWalk k (n + 1) (count + 1) _ (by omega)))

/-- The sprites of a scanline, from the plane's row on (R145). -/
theorem reaches_spriteRow (row : Row) (st : Byte) :
    let drawn := spriteRow s.params.spriteYBias task.index task.sample s.memRead row st
    Reaches s ({ task with phase := .sprite 0 0 noneOccupied [], row := row }, st)
      ({ task with phase := .drawn, row := drawn.1 }, drawn.2) := by
  have h := reaches_spriteWalk s task spriteEntries 0 0 { row := row, occupied := noneOccupied, status := st } (by simp)
  rw [← List.range_eq_range'] at h
  exact h

end

/-- A plane that has sprites, from its entry on, ends in the row and the status register of `scanlineIn` (R117). -/
theorem reaches_scanlineIn_of_sprites (s : State) (task : LineTask) (st : Byte) {m : DisplayMode}
    (hblank : m ≠ .blank) (htext : m ≠ .text) :
    let line := scanlineIn m s.params.spriteYBias task.index task.sample s.memRead st
    Reaches s (enterPlane m task, st) ({ task with phase := .drawn, row := line.1 }, line.2) := by
  have hplane := reaches_endPlane s (task := { task with phase := .plane m 0 [], row := [] }) st rfl hblank
  rw [endPlane_of_sprites hblank htext, List.nil_append] at hplane
  rw [enterPlane_of_sprites hblank htext, scanlineIn_of_sprites hblank htext]
  exact hplane.trans (reaches_spriteRow s task _ st)

/-- From the mode dispatch on, the moves end in the row and the status register of `scanlineRow` (R117). -/
theorem reaches_scanlineRow (s : State) {task : LineTask} (st : Byte) (hphase : task.phase = .dispatch)
    (hgranularity : task.granularity = .byByte) :
    let line := scanlineRow s.params.spriteYBias task.index task.sample s.memRead st
    Reaches s (task, st) ({ task with phase := .drawn, row := line.1 }, line.2) := by
  refine (reaches_enterPlane s st hphase hgranularity).trans ?_
  rw [scanlineRow]
  cases task.sample.modeOf with
  | blank => exact .refl ..
  | text =>
    rw [scanlineIn, textRow_eq_planeRow]
    exact reaches_endPlane s st (m := .text) rfl (by decide)
  | graphicsI | graphicsII | multicolor => exact reaches_scanlineIn_of_sprites s task st (by decide) (by decide)

/-- Settles O53: the sample, the plane and the sprites by `moves_newLine` and `reaches_scanlineRow`, then the return. -/
theorem byteByByteScanlineAgreesWithLine : Obligations.ByteByByteScanlineAgreesWithLine := by
  intro index s t h
  obtain ⟨hindex, htask, rfl⟩ := execLine_next_cases h
  obtain ⟨n, hmoves⟩ : Reaches s (newLine index .byByte s.regs, s.status) _ :=
    Reaches.trans ⟨8, moves_newLine s index s.status⟩ (reaches_scanlineRow s s.status rfl rfl)
  refine ⟨n + 1, ?_⟩
  rw [run_succ_of_step (step_lineStart _ _ hindex htask), List.replicate_add]
  refine (run_add_of_run 1 (hmoves [.renderNext])).trans ?_
  refine (run_succ_of_step (step_of_action rfl rfl (by simp)) 0).trans ?_
  have hnone : s.setRender none = s := by rw [← htask]; rfl
  conv_rhs => rw [← hnone]
  rfl

end Sys2Proof.Machine

/-! The decoder on each class of second command byte and on the mode word of a register file (R62, R68). -/

namespace Sys2Proof.Machine

/-- Bits 7:6 of a second command byte under the mask 0xC0 are its class (R62). -/
theorem class_of_masked {v : Byte} {cls : BitVec 2} (h : v &&& 0xC0 = secondByte cls 0) : v.extractLsb' 6 2 = cls := by
  have hmask : (0xC0 : Byte).extractLsb' 6 2 = BitVec.allOnes 2 := by decide
  have hbits := congrArg (BitVec.extractLsb' 6 2) h
  rwa [secondByte, BitVec.extractLsb'_append_eq_left, BitVec.extractLsb'_and, hmask, BitVec.and_allOnes] at hbits

theorem decodeSecondByte_of_readClass {v : Byte} (h : v &&& 0xC0 = 0x00) (e : Nat) :
    decodeSecondByte v e = .setrd (v.extractLsb' 0 6) e := by
  simp only [decodeSecondByte, class_of_masked (cls := 0b00) h]
  rfl

theorem decodeSecondByte_of_writeClass {v : Byte} (h : v &&& 0xC0 = 0x40) (e : Nat) :
    decodeSecondByte v e = .setwr (v.extractLsb' 0 6) e := by
  simp only [decodeSecondByte, class_of_masked (cls := 0b01) h]
  rfl

theorem decodeSecondByte_of_invalidClass {v : Byte} (h : v &&& 0xC0 = 0xC0) (e : Nat) :
    decodeSecondByte v e = .cmdinv (v.extractLsb' 0 6) e := by
  simp only [decodeSecondByte, class_of_masked (cls := 0b11) h]
  rfl

/-- The mask 0xC0 leaves the class of a second command byte and none of its operand bits. -/
theorem secondByte_masked (cls : BitVec 2) (low : BitVec 6) : secondByte cls low &&& 0xC0 = secondByte cls 0 := by
  have hmask : (0xC0 : Byte) = BitVec.allOnes 2 ++ 0#6 := by decide
  rw [secondByte, hmask, BitVec.and_append, BitVec.and_allOnes, BitVec.and_zero]
  rfl

theorem secondByte_operand (cls : BitVec 2) (low : BitVec 6) : (secondByte cls low).extractLsb' 0 6 = low :=
  BitVec.extractLsb'_append_eq_right

theorem secondByte_register (cls : BitVec 2) (ignored reg : BitVec 3) :
    (secondByte cls (ignored ++ reg)).extractLsb' 0 3 = reg := by
  rw [secondByte, BitVec.extractLsb'_append_eq_of_add_le (by decide), BitVec.extractLsb'_append_eq_right]

theorem secondByte_ignored (cls : BitVec 2) (ignored reg : BitVec 3) :
    (secondByte cls (ignored ++ reg)).extractLsb' 3 3 = ignored := by
  rw [secondByte, BitVec.extractLsb'_append_eq_of_add_le (by decide), BitVec.extractLsb'_append_eq_left]

/-- Settles O1: a second command byte by its class and operand bits, a scanline by the domain of its index; the code of
any other operation decodes by computation. -/
theorem decodeOfEncodeIsTheInstruction : Obligations.DecodeOfEncodeIsTheInstruction := by
  intro i hwf
  cases i with
  | setrd addrHi e =>
    have h := decodeSecondByte_of_readClass (secondByte_masked 0b00 addrHi) e
    rw [secondByte_operand] at h
    exact congrArg Except.ok h
  | setwr addrHi e =>
    have h := decodeSecondByte_of_writeClass (secondByte_masked 0b01 addrHi) e
    rw [secondByte_operand] at h
    exact congrArg Except.ok h
  | regw reg ignored e =>
    have h := decodeSecondByte_of_registerClass (secondByte_masked 0b10 (ignored ++ reg)) e
    rw [secondByte_register, secondByte_ignored] at h
    exact congrArg Except.ok h
  | cmdinv ignored e =>
    have h := decodeSecondByte_of_invalidClass (secondByte_masked 0b11 ignored) e
    rw [secondByte_operand] at h
    exact congrArg Except.ok h
  | line index => exact if_pos (of_decide_eq_true hwf)
  | wd | rd | rs | wc1 | intp | clrint | frame | reset => rfl
  | modeBlank | modeG1 | modeG2 | modeMc | modeTx | modeInvalidM2M3 | modeInvalidM1M3 | modeInvalidM1M2
  | modeInvalidAll => rfl

/-- Settles O2: the nine words decode by computation. -/
theorem wordsOfTheSpecDecode : Obligations.WordsOfTheSpecDecode :=
  ⟨rfl, rfl, rfl, rfl, rfl, rfl, rfl, rfl, rfl⟩

/-- Settles O3: the decoder on each class, whose operands are the low bits of the byte. -/
theorem commandByteDecodesByPhaseAndClass : Obligations.CommandByteDecodesByPhaseAndClass := by
  intro v e
  have hignored : v.extractLsb' 3 3 = BitVec.ofNat 3 (v.toNat / 8) :=
    congrArg (BitVec.ofNat 3) (Nat.shiftRight_eq_div_pow v.toNat 3)
  exact ⟨rfl, fun h => congrArg Except.ok (decodeSecondByte_of_readClass h e),
    fun h => congrArg Except.ok (decodeSecondByte_of_writeClass h e),
    fun h => hignored ▸ congrArg Except.ok (decodeSecondByte_of_registerClass h e),
    fun h => congrArg Except.ok (decodeSecondByte_of_invalidClass h e)⟩

/-- Where the mode word of a register file holds DISP, M1, M2 and M3 (R68). -/
theorem modeWord_bits (r : RegFile) : r.modeWord.getLsbD 14 = r.displayEnabled ∧ r.modeWord.getLsbD 12 = r.m1 ∧
    r.modeWord.getLsbD 11 = r.m2 ∧ r.modeWord.getLsbD 1 = r.m3 :=
  ⟨BitVec.getLsbD_append, BitVec.getLsbD_append, BitVec.getLsbD_append, BitVec.getLsbD_append⟩

/-- Settles O4: the row and the mode are functions of DISP and the code, so each code is a case of its own. -/
theorem modeCodeSelectsTheRow : Obligations.ModeCodeSelectsTheRow := by
  intro r row code
  have hrow : row = .ok (decodeMode r.modeWord) := rfl
  have hcode : code = (r.m1, r.m2, r.m3) := rfl
  have hdisplay : r.r1.getLsbD 6 = r.displayEnabled := rfl
  obtain ⟨hDisp, hM1, hM2, hM3⟩ := modeWord_bits r
  rw [hrow, hcode, hdisplay, decodeMode, hDisp, hM1, hM2, hM3, RegFile.modeOf]
  generalize r.displayEnabled = disp, r.m1 = m1, r.m2 = m2, r.m3 = m3
  refine ⟨?_, ?_⟩
  · rintro rfl
    exact ⟨rfl, rfl⟩
  · rintro rfl
    refine ⟨?_, ?_, ?_, ?_, ?_, ?_, ?_, ?_⟩ <;> (rintro ⟨⟩; exact ⟨rfl, rfl⟩)

end Sys2Proof.Machine

/-! Steps that decode, and the latch phase after an access between the two bytes of a command (R66). -/

namespace Sys2Proof.Machine

/-- Settles O5: an access by `step_of_op`, a mode word by the dispatch to the mode of its register sample. -/
theorem stepRunsTheDecodedInstruction : Obligations.StepRunsTheDecodedInstruction := by
  refine fun s rest i => ⟨fun a htrace hdecode => ?_, fun t htrace htask hphase hdecode => ?_⟩
  · rw [step_of_op htrace hdecode, State.advance_of_trace htrace]
  · obtain rfl : decodeMode t.sample.modeWord = i := Except.ok.inj hdecode
    rw [step_of_renderNext_dispatch htrace htask hphase, ← exec_decodeMode, State.advance_of_trace htrace]

@[simp] theorem writeData_latched (v : Byte) (s : State) : (writeData v s).latched = false := rfl

@[simp] theorem readData_latched (s : State) : (readData s).latched = false := by
  unfold readData; split <;> rfl

/-- Settles O47: each of the three accesses leaves the latch phase false, and a status read leaves the address. -/
theorem accessBetweenTheBytesCancelsTheCommand : Obligations.AccessBetweenTheBytesCancelsTheCommand := by
  intro v w e e' s t i habsent hi h
  suffices t.latched = false ∧ (i = .rs → t.address = s.address) by
    obtain ⟨hlatched, haddress⟩ := this
    exact ⟨by rw [hlatched]; rfl, haddress⟩
  simp only [List.mem_cons, List.not_mem_nil, or_false] at hi
  obtain rfl | rfl | rfl := hi
  · obtain rfl : writeData v s = t := Host.Outcome.next.inj ((timed_of_absent habsent).symm.trans h)
    exact ⟨writeData_latched v s, nofun⟩
  · obtain rfl : readData s = t := Host.Outcome.next.inj ((timed_of_absent habsent).symm.trans h)
    exact ⟨readData_latched s, nofun⟩
  · cases h
    exact ⟨rfl, fun _ => rfl⟩

end Sys2Proof.Machine

/-! The pixels of the planes of 32 cells, each of 8 columns (R70, R115). -/

namespace Sys2Proof.Machine

/-- Among blocks of one length, entry `k` of block `c`. -/
theorem getElem?_flatMap_range {α : Type} {f : Nat → List α} {w : Nat} (hw : ∀ c, (f c).length = w) {c k : Nat}
    (hk : k < w) : ∀ {n : Nat}, c < n → ((List.range n).flatMap f)[c * w + k]? = (f c)[k]?
  | n + 1, hc => by
    have hlength : ((List.range n).flatMap f).length = n * w := by
      simpa using length_flatMap_const (List.range n) f w fun c _ => hw c
    rw [List.range_succ, List.flatMap_append, List.flatMap_singleton]
    obtain hlt | rfl := Nat.lt_or_eq_of_le (Nat.le_of_lt_succ hc)
    · have hinside : c * w + k < n * w := by
        have := Nat.mul_le_mul_right w hlt
        rw [Nat.succ_mul] at this
        omega
      rw [List.getElem?_append_left (hlength ▸ hinside)]
      exact getElem?_flatMap_range hw hk hlt
    · rw [List.getElem?_append_right (hlength ▸ Nat.le_add_right ..), hlength, Nat.add_sub_cancel_left]

theorem getElem?_colouredCell (r : RegFile) (pat col : Byte) {k : Nat} (hk : k < 8) :
    (colouredCell r pat col)[k]? = some (r.resolve (if pat.getLsbD (7 - k) then hiNibble col else loNibble col)) := by
  rw [colouredCell_eq_map, List.getElem?_map, List.getElem?_range hk, Option.map_some]

theorem getElem?_blockCell (r : RegFile) (b : Byte) {k : Nat} (hk : k < 8) :
    (blockCell r b)[k]? = some (r.resolve (if k < 4 then hiNibble b else loNibble b)) := by
  rw [blockCell_eq_map, List.getElem?_map, List.getElem?_range hk, Option.map_some]

/-- Settles O29: the pixel of the cell, whose three bytes stand at the addresses of R125. -/
theorem graphics1PixelIsItsCellColour : Obligations.Graphics1PixelIsItsCellColour := by
  intro y c k r rd hc hk name pat col code
  refine ⟨length_graphics1Row y r rd, ?_⟩
  rw [graphics1Row, getElem?_flatMap_range (fun _ => length_colouredCell ..) hk hc, getElem?_colouredCell r _ _ hk,
    nameAddress_eq, patternAddress_eq, colourAddress_eq]
  rfl

/-- Settles O30: the pixel of the cell, whose pattern and colour byte stand in the tables of the scanline's third. -/
theorem graphics2PixelIsItsPatternByteColour : Obligations.Graphics2PixelIsItsPatternByteColour := by
  intro y c k r rd hy hc hk third patBase colBase name pat col code
  have hthird : y / 64 < 3 := by omega
  refine ⟨length_graphics2Row y r rd, ?_⟩
  rw [graphics2Row, getElem?_flatMap_range (fun _ => length_colouredCell ..) hk hc, getElem?_colouredCell r _ _ hk,
    nameAddress_eq, patternBase2_eq r hthird, colourBase2_eq r hthird]
  rfl

/-- Settles O31: the pixel of the cell, whose byte stands at the address of R135 and R136. -/
theorem multicolorPixelIsItsBlockColour : Obligations.MulticolorPixelIsItsBlockColour := by
  intro y c k r rd hc hk name b code
  refine ⟨length_multicolorRow y r rd, ?_⟩
  rw [multicolorRow, getElem?_flatMap_range (fun _ => length_blockCell ..) hk hc, getElem?_blockCell r _ hk,
    nameAddress_eq, patternAddress_eq]
  rfl

end Sys2Proof.Machine

/-! The port operations past the gate: each as one update of the state, with the address that it leaves as a number
(R90 to R99). -/

namespace Sys2Proof.Machine

/-- The command address is bits 5:0 of the second byte above the first byte (R63). -/
theorem assembleAddress_eq (addrHi : BitVec 6) (first : Byte) :
    assembleAddress addrHi first = addrHi.toNat * 256 + first.toNat := by
  rw [assembleAddress, BitVec.toNat_append, ← Nat.shiftLeft_add_eq_or_of_lt first.isLt, Nat.shiftLeft_eq]

/-- The mask of R92 keeps bits 13:8 and leaves the low byte to the value. -/
theorem masked_or_eq_append (address : VAddr) (value : Byte) :
    (address &&& 0x3F00) ||| value.setWidth 14 = address.extractLsb' 8 6 ++ value := by
  have hmask : (0x3F00 : VAddr) = BitVec.allOnes 6 ++ (0 : Byte) := by decide
  ext i hi
  rw [hmask, BitVec.getElem_or, BitVec.getElem_and, BitVec.getElem_append, BitVec.getElem_append]
  by_cases hlow : i < 8
  · simp [hlow]
  · have hvalue : value.getLsbD i = false := BitVec.getLsbD_of_ge value i (by omega)
    have hbit : 8 + (i - 8) = i := by omega
    rw [dif_neg hlow, dif_neg hlow, BitVec.getElem_allOnes]
    simp [hvalue, hbit, BitVec.getLsbD_eq_getElem hi]

/-- The low byte replaced, in numbers (R92). -/
theorem replaceLowByte_eq (address : VAddr) (value : Byte) :
    replaceLowByte address value = address.toNat / 256 * 256 + value.toNat := by
  have hhigh : (address.extractLsb' 8 6).toNat = address.toNat / 256 := by
    rw [BitVec.extractLsb'_toNat, Nat.shiftRight_eq_div_pow]
    omega
  rw [← hhigh, ← assembleAddress_eq, replaceLowByte, masked_or_eq_append, assembleAddress]

/-- The gate leaves VRAM alone. -/
theorem PassesGate.vramWf {op : TimedOp} {e : Nat} {s s1 : State} (hpass : PassesGate op e s s1)
    (hwf : s.vramWf = true) : s1.vramWf = true := by
  obtain rfl | ⟨c, rfl⟩ | ⟨c, g, q, rfl⟩ := hpass.cases <;> exact hwf

/-- WriteData past the gate: in either mode the same state but for the diagnostic (R90). -/
theorem writeData_eq (v : Byte) (s : State) : writeData v s = { s with
    vram := (s.memWrite s.address.toNat v).vram
    address := s.advanceAddress.address
    mode := .write
    latched := false
    portOut := .nothing
    diags := s.diags ++ (if s.mode = .read then [.writeInReadMode s.address v] else []) } := by
  unfold writeData
  cases hmode : s.mode with
  | read => rfl
  | write =>
    rw [if_neg (by decide), if_neg (by decide), List.append_nil, ← hmode]
    rfl

/-- ReadData past the gate in Read mode (R97). -/
theorem readData_of_read {s : State} (hmode : s.mode = .read) : readData s = { s with
    address := s.advanceAddress.address
    latched := false
    portOut := .byte (s.memRead s.address.toNat) } := by
  rw [readData, if_pos hmode]
  rfl

/-- ReadData past the gate in Write mode (R97, D18). -/
theorem readData_of_write {s : State} (hmode : s.mode = .write) : readData s = { s with
    mode := .read
    latched := false
    portOut := .byte 0xFF
    diags := s.diags ++ [.readInWriteMode s.address] } := by
  rw [readData, if_neg (by rw [hmode]; decide)]
  rfl

theorem firstByte_address (v : Byte) (s : State) :
    (firstByte v s).address.toNat = (s.address.toNat / 256 * 256 + v.toNat) % s.vramBytes :=
  replaceLowByte_eq s.address v ▸ State.setAddress_toNat (s.setLatchByte v) _

theorem addressCommand_address (m : RwMode) (addrHi : BitVec 6) (s : State) :
    (addressCommand m addrHi s).address.toNat = (addrHi.toNat * 256 + s.latchByte.toNat) % s.vramBytes :=
  assembleAddress_eq addrHi s.latchByte ▸ s.setAddress_toNat _

/-- A second byte of class 11, as its class bits beside bits 5:0 (R62). -/
theorem secondByte_invalidClass (ignored : BitVec 6) : secondByte 0b11 ignored = 0xC0 ||| ignored.setWidth 8 := by
  revert ignored; decide

/-- Settles O9: past the gate WD is `writeData`, and VRAM read afterwards is VRAM with the one byte replaced. -/
theorem writeDataStoresTheByteAndAdvances : Obligations.WriteDataStoresTheByteAndAdvances := by
  intro v e s s1 hwf hpass
  have hread (a : Nat) := writeData_memRead (hpass.vramWf hwf) v a
  refine ⟨writeData v s1, timed_of_passes hpass, ?_, ?_, ?_, fun a hother => ?_⟩
  · rw [writeData_eq]
  · rw [writeData_eq]
    exact s1.advanceAddress_toNat
  · rw [hread, if_pos rfl]
  · rw [hread, if_neg hother]

/-- Settles O10: past the gate RD is `readData`, in each of the two modes. -/
theorem readDataReturnsTheByteOrTurnsTheMode : Obligations.ReadDataReturnsTheByteOrTurnsTheMode := by
  intro e s s1 hpass
  have hexec : exec (.rd e) s = .next (readData s1) := timed_of_passes hpass
  constructor <;> intro hmode
  · rw [readData_of_read hmode] at hexec
    exact ⟨_, hexec, rfl, s1.advanceAddress_toNat⟩
  · rw [hexec, readData_of_write hmode]

/-- Settles O12: past the gate WC1 is `firstByte`. -/
theorem firstByteReplacesTheLowAddressByte : Obligations.FirstByteReplacesTheLowAddressByte :=
  fun v _ _ s1 hpass => ⟨firstByte v s1, timed_of_passes hpass, rfl, firstByte_address v s1⟩

/-- Settles O13: past the gate SETRD and SETWR are `addressCommand` with their mode. -/
theorem addressCommandsSetAddressAndMode : Obligations.AddressCommandsSetAddressAndMode :=
  fun hi _ _ s1 hpass =>
    ⟨⟨addressCommand .read hi s1, timed_of_passes hpass, rfl, addressCommand_address .read hi s1⟩,
      ⟨addressCommand .write hi s1, timed_of_passes hpass, rfl, addressCommand_address .write hi s1⟩⟩

/-- Settles O11: `execRs` returns and clears in one update, so the second read returns the cleared register. -/
theorem readStatusReturnsAndClears : Obligations.ReadStatusReturnsAndClears := fun _ => ⟨_, rfl, rfl, rfl⟩

/-- Settles O15: past the gate CMDINV is `invalidCommand`, whose diagnostic carries the whole second byte. -/
theorem invalidCommandOnlyClearsTheLatch : Obligations.InvalidCommandOnlyClearsTheLatch := by
  intro ignored e s s1 hpass
  rw [← secondByte_invalidClass]
  exact timed_of_passes hpass

end Sys2Proof.Machine

/-! A data access that POLICY Warn lets through (R166, R169). -/

namespace Sys2Proof.Machine

theorem violations_append (ds ds' : List Diag) : violations (ds ++ ds') = violations ds + violations ds' :=
  List.countP_append

/-- What an access that comes too soon finds under POLICY Warn: its time recorded and one violation raised. -/
theorem TooSoon.passes_of_warn {v : ValidatorParams} {op : TimedOp} {e : Nat} {s : State} (hsoon : TooSoon v op e s)
    (hwarn : v.policy = .warn) : ∃ c d, PassesGate op e s ((s.recordAccess c e).raise d) ∧ violations [d] = 1 :=
  ⟨_, _, .inr (.inr ⟨v, hsoon, hwarn, rfl⟩), rfl⟩

/-- Settles O18: the access passes the gate with one violation raised, and O9 and O10 say what it does then. -/
theorem warnPolicyCountsOneViolation : Obligations.WarnPolicyCountsOneViolation := by
  intro v e b s hwf hwarn
  constructor <;> intro hsoon <;> obtain ⟨c, d, hpass, hcount⟩ := hsoon.passes_of_warn hwarn
  · obtain ⟨hread, hwrite⟩ := readDataReturnsTheByteOrTurnsTheMode e s _ hpass
    cases hmode : s.mode with
    | read =>
      obtain ⟨t, hexec, ht, haddress⟩ := hread hmode
      refine ⟨t, hexec, ?_, ?_, ?_, ?_, fun _ => ⟨?_, haddress⟩, nofun⟩ <;> rw [ht]
      · simp [violations_append, hcount]
      · rfl
      · exact hmode
      · rfl
    | write =>
      refine ⟨_, hwrite hmode, ?_, rfl, rfl, rfl, nofun, fun _ => ⟨rfl, rfl⟩⟩
      simp only [State.raise_diags, State.recordAccess_diags, violations_append, hcount]
      rfl
  · obtain ⟨t, hexec, ht, haddress, hsame, hother⟩ := writeDataStoresTheByteAndAdvances b e s _ hwf hpass
    refine ⟨t, hexec, ?_, ?_, ?_, haddress, hsame, hother⟩ <;> rw [ht]
    simp only [State.raise_diags, State.recordAccess_diags, violations_append, hcount]
    split <;> rfl

end Sys2Proof.Machine

/-! The low byte of `address` after both bytes of a command (R99). -/

namespace Sys2Proof.Machine

/-- Reducing modulo VRAM_SIZE keeps the low byte, VRAM_SIZE being a multiple of 256 (R4). -/
theorem lowByte_of_reduced (s : State) (high : Nat) (low : Byte) :
    (high * 256 + low.toNat) % s.vramBytes % 256 = low.toNat := by
  have hdvd : 256 ∣ s.vramBytes := by
    obtain h | h | h := VramSize.bytes_cases s.params.vramSize <;> rw [State.vramBytes, h] <;> decide
  rw [Nat.mod_mod_of_dvd _ hdvd, Nat.mul_add_mod', Nat.mod_eq_of_lt low.isLt]

theorem addressCommand_lowByte (m : RwMode) (addrHi : BitVec 6) (s : State) :
    (addressCommand m addrHi s).address.toNat % 256 = s.latchByte.toNat :=
  addressCommand_address m addrHi s ▸ lowByte_of_reduced s _ _

/-- What the second byte of a command leaves, whatever its class: the latch phase false, and in the low byte of
`address` the first byte, if it stood there already. -/
theorem lowByte_of_secondByte {s u : State} {w : Byte} {e : Nat} (habsent : s.params.validator = .absent)
    (hlow : s.address.toNat % 256 = s.latchByte.toNat) (h : exec (decodeSecondByte w e) s = .next u) :
    u.address.toNat % 256 = s.latchByte.toNat ∧ u.latched = false := by
  have hrun {run : State → State} (hu : timed .writeCommand e dropWrite run s = .next u) : u = run s :=
    Host.Outcome.next.inj (hu.symm.trans (timed_of_absent habsent))
  obtain ⟨hi, hclass⟩ | ⟨hi, hclass⟩ | ⟨-, _, _, hclass⟩ | ⟨_, hclass⟩ := decodeSecondByte_cases w e <;>
    rw [hclass] at h
  · rw [hrun h]
    exact ⟨addressCommand_lowByte .read hi s, rfl⟩
  · rw [hrun h]
    exact ⟨addressCommand_lowByte .write hi s, rfl⟩
  · rw [hrun h, registerWrite_eq]
    exact ⟨hlow, rfl⟩
  · rw [hrun h]
    exact ⟨hlow, rfl⟩

/-- Settles O46: the first byte stands in the low byte of `address` at once, and no second byte takes it away. -/
theorem twoByteCommandLeavesItsFirstByteInAddress : Obligations.TwoByteCommandLeavesItsFirstByteInAddress := by
  intro v w e e' s t u i habsent hfirst hdecode hsecond
  obtain rfl : firstByte v s = t := Host.Outcome.next.inj ((timed_of_absent habsent).symm.trans hfirst)
  obtain rfl : decodeSecondByte w e' = i := Except.ok.inj hdecode
  have hlow : (firstByte v s).address.toNat % 256 = v.toNat := firstByte_address v s ▸ lowByte_of_reduced s _ v
  exact lowByte_of_secondByte (s := firstByte v s) habsent hlow hsecond

end Sys2Proof.Machine

/-! The render operations in full (R110, R111): what FRAME and LINE answer, and what they do to F (R118). -/

namespace Sys2Proof.Machine

theorem not_isSome_of_eq_none {s : State} (htask : s.render = none) : ¬ s.render.isSome = true := by simp [htask]

theorem execFrame_of_idle (e : Nat) {s : State} (htask : s.render = none) :
    let f := frameRows s.params.spriteYBias s.regs s.memRead (List.range activeHeight) s.status
    exec (.frame e) s = .next { s with
      surface := f.1
      status := setF f.2
      timing := frameRedrawn s.params.validator e s.timing } :=
  if_neg (not_isSome_of_eq_none htask)

theorem execLine_of_idle {index : Nat} {s : State} (hindex : index < activeHeight) (htask : s.render = none) :
    let line := scanlineRow s.params.spriteYBias index s.regs s.memRead s.status
    exec (.line index) s = .next { s with lineOut := some (index, line.1), status := endLine index line.2 } :=
  (if_neg (Nat.not_le.mpr hindex)).trans (if_neg (not_isSome_of_eq_none htask))

theorem length_scanlineRow (bias : Int) (y : Nat) (r : RegFile) (rd : Nat → Byte) (st : Byte) :
    (scanlineRow bias y r rd st).1.length = activeWidth := length_scanlineIn ..

/-- The frame-redrawn event leaves the timestamps alone (R168). -/
theorem frameRedrawn_last (v : Validator) (e : Nat) (t : TimingState) : (frameRedrawn v e t).last = t.last := by
  cases v <;> rfl

/-- Settles O22: `frameRows` gives one row of 256 codes for each scanline, and F is set after the last. -/
theorem frameWritesTheSurfaceAndSetsF : Obligations.FrameWritesTheSurfaceAndSetsF := by
  intro e s htask
  refine ⟨_, execFrame_of_idle e htask, rfl, ?_, fun _ hrow => length_of_mem_frameRows _ _ _ _ _ hrow,
    (setF_fields _).1, frameRedrawn_last .., fun habsent => ?_, fun v hpresent => ?_⟩
  · exact (length_frameRows ..).trans List.length_range
  · rw [habsent]; rfl
  · rw [hpresent]; rfl

/-- The sprites change S5, C and FSN alone (R21). -/
theorem spriteRow_statusF (bias : Int) (y : Nat) (r : RegFile) (rd : Nat → Byte) (row : Row) (st : Byte) :
    statusF (spriteRow bias y r rd row st).2 = statusF st := by
  refine spriteWalk_keeps (P := fun cv => statusF cv.status = statusF st) (fun colour dx cv h => ?_)
    (fun n cv h => ?_) bias y r rd _ _ _ rfl
  · obtain hsame | hset := plot_status colour dx cv
    · rw [hsame, h]
    · obtain ⟨-, hF, -⟩ := setC_fields cv.status
      rw [hset, hF, h]
  · cases hfifth : statusS5 cv.status with
    | true => rw [recordFifth_of_set n hfifth, h]
    | false =>
      obtain ⟨-, -, hF, -⟩ := recordFifth_fields n hfifth
      exact hF.trans h

/-- Drawing a scanline leaves F alone, in every mode. -/
theorem scanlineRow_statusF (bias : Int) (y : Nat) (r : RegFile) (rd : Nat → Byte) (st : Byte) :
    statusF (scanlineRow bias y r rd st).2 = statusF st := by
  rw [scanlineRow]
  cases r.modeOf with
  | blank | text => rfl
  | graphicsI | graphicsII | multicolor => exact spriteRow_statusF ..

theorem endLine_of_lt {index : Nat} (h : index < 191) (st : Byte) : endLine index st = st :=
  if_neg (Nat.ne_of_lt h)

/-- Settles O38: FRAME and LINE 191 end with `setF`; on any other scanline F is what drawing leaves, the F before. -/
theorem frameFlagIsSetByTheLastScanline : Obligations.FrameFlagIsSetByTheLastScanline := by
  refine ⟨fun e s t h => ?_, fun s t h => ?_, fun index s t hindex h => ?_⟩
  · obtain ⟨-, rfl⟩ := execFrame_next_cases h
    exact (setF_fields _).1
  · obtain ⟨-, -, rfl⟩ := execLine_next_cases h
    exact (setF_fields _).1
  · obtain ⟨-, -, rfl⟩ := execLine_next_cases h
    dsimp only
    rw [endLine_of_lt hindex, scanlineRow_statusF]

/-- Settles O23: `execLine_of_idle`, whose row is 256 codes long in every mode. -/
theorem lineReturnsTheScanlineRow : Obligations.LineReturnsTheScanlineRow :=
  fun _ _ hindex htask => ⟨execLine_of_idle hindex htask, length_scanlineRow ..⟩

/-- Settles O24: the index is tested first, then whether a scanline is in progress. -/
theorem renderOperationsAreRefusedOutsideTheirDomain : Obligations.RenderOperationsAreRefusedOutsideTheirDomain :=
  fun _ _ _ =>
    ⟨fun hindex => if_pos hindex,
      fun hindex htask => (if_neg (Nat.not_le.mpr hindex)).trans (if_pos (Option.isSome_iff_ne_none.mpr htask)),
      fun htask => if_pos (Option.isSome_iff_ne_none.mpr htask)⟩

/-- Settles O28: a scanline in mode Blank is `blankRow` and leaves the status register to `endLine`. -/
theorem blankScanlineIsTheBackdrop : Obligations.BlankScanlineIsTheBackdrop := by
  intro index s hindex htask hblank
  have hline := execLine_of_idle hindex htask
  rw [scanlineRow, hblank] at hline
  exact hline

end Sys2Proof.Machine

/-! The pixels of a Text row: cells of 6 columns between two margins (R140 to R142). -/

namespace Sys2Proof.Machine

theorem getElem?_textCell (r : RegFile) (pat : Byte) {k : Nat} (hk : k < 6) :
    (textCell r pat)[k]? = some (if pat.getLsbD (7 - k) then r.resolve r.textForeground else r.backdrop) := by
  rw [textCell, patternPixels, List.getElem?_map, List.getElem?_range hk, Option.map_some]

theorem getElem?_textMargin (r : RegFile) {x : Nat} (hx : x < 8) : (textMargin r)[x]? = some r.backdrop :=
  List.getElem?_replicate_of_lt hx

/-- The cells of a Text row without its margins. -/
def textCells (y : Nat) (r : RegFile) (rd : Nat → Byte) : Row :=
  (List.range 40).flatMap fun c =>
    textCell r (rd (glyphAddress r.patternTable (rd (r.nameAddress 40 y c)) (y % 8)))

theorem textRow_eq_append (y : Nat) (r : RegFile) (rd : Nat → Byte) :
    textRow y r rd = textMargin r ++ (textCells y r rd ++ textMargin r) := List.append_assoc ..

theorem length_textCells (y : Nat) (r : RegFile) (rd : Nat → Byte) : (textCells y r rd).length = 240 :=
  (length_flatMap_const (List.range 40) _ 6 fun _ _ => length_textCell ..).trans (by simp)

/-- Settles O32: the cells stand from column 8 on, and the bytes of a cell at the addresses of R140. -/
theorem textPixelIsForegroundOrBackdrop : Obligations.TextPixelIsForegroundOrBackdrop := by
  intro y c k r rd hc hk bd tf name pat
  have hcell : (textCells y r rd)[c * 6 + k]? = some (if pat.getLsbD (7 - k) ∧ tf ≠ 0 then tf else bd) := by
    rw [textCells, getElem?_flatMap_range (fun _ => length_textCell ..) hk hc, getElem?_textCell r _ hk,
      nameAddress_eq, patternAddress_eq]
    simp only [ite_and, ne_eq, ite_not]
    rfl
  refine ⟨length_textRow y r rd, ?_, fun x hx => ⟨?_, ?_⟩⟩
  · have hcolumn : 8 + c * 6 + k - 8 = c * 6 + k := by omega
    rw [textRow_eq_append, List.getElem?_append_right (by rw [length_textMargin]; omega), length_textMargin, hcolumn,
      List.getElem?_append_left (by rw [length_textCells]; omega), hcell]
  · rw [textRow_eq_append, List.getElem?_append_left (by simpa using hx)]
    exact getElem?_textMargin r hx
  · have hcolumn : 248 + x - 8 - 240 = x := by omega
    rw [textRow_eq_append, List.getElem?_append_right (by rw [length_textMargin]; omega), length_textMargin,
      List.getElem?_append_right (by rw [length_textCells]; omega), length_textCells, hcolumn]
    exact getElem?_textMargin r hx

end Sys2Proof.Machine

/-! The mode rows on the scanline in progress (R113). -/

namespace Sys2Proof.Machine

section

variable {s : State} {task : LineTask} (m : DisplayMode)

/-- Undisturbed, the plane and its sprites are drawn at once (R117). -/
theorem dispatchLine_of_whole (htask : s.render = some task) (hphase : task.phase = .dispatch)
    (hgranularity : task.granularity = .whole) :
    dispatchLine m s = .next
      (drawnAs s task (scanlineIn m s.params.spriteYBias task.index task.sample s.memRead s.status)) := by
  simp only [dispatchLine, drawnAs, htask, hphase, hgranularity, if_true]
  rfl

/-- Byte by byte, the plane is entered (R126). -/
theorem dispatchLine_of_byByte (htask : s.render = some task) (hphase : task.phase = .dispatch)
    (hgranularity : task.granularity = .byByte) :
    dispatchLine m s = .next (s.setRender (some (enterPlane m task))) := by
  simp only [dispatchLine, htask, hphase, hgranularity, if_true]

theorem dispatchLine_refused (hphase : ∀ task, s.render = some task → task.phase ≠ .dispatch) :
    dispatchLine m s = .refused .noScanlineAtDispatch := by
  unfold dispatchLine
  cases htask : s.render with
  | none => rfl
  | some task => exact if_neg (hphase task htask)

end

/-- The rows of mode Blank, one by one. -/
theorem exec_of_mem_blankRows {i : Instr} (hi : i ∈ blankRows) (s : State) : exec i s = dispatchLine .blank s := by
  simp only [blankRows, List.mem_cons, List.not_mem_nil, or_false] at hi
  obtain rfl | rfl | rfl | rfl | rfl := hi <;> rfl

/-- Every mode row is the dispatch to some mode. -/
theorem exec_of_mem_modeRows {i : Instr} (hi : i ∈ modeRows) (s : State) : ∃ m, exec i s = dispatchLine m s := by
  simp only [modeRows, List.mem_cons, List.not_mem_nil, or_false] at hi
  obtain rfl | rfl | rfl | rfl | rfl | rfl | rfl | rfl | rfl := hi <;> exact ⟨_, rfl⟩

/-- Settles O25: each row is the dispatch to its mode, and draws what `scanlineIn` draws in that mode. -/
theorem modeRowsDrawTheirScanline : Obligations.ModeRowsDrawTheirScanline := by
  intro s t htask hphase hgranularity sprites
  have hdraw (m : DisplayMode) := dispatchLine_of_whole m htask hphase hgranularity
  exact ⟨hdraw .graphicsI, hdraw .graphicsII, hdraw .multicolor, hdraw .text,
    fun i hi => (exec_of_mem_blankRows hi s).trans (hdraw .blank)⟩

/-- Settles O26: each row is the dispatch to its mode, and enters the plane by `enterPlane`. -/
theorem modeRowsEnterTheirPlane : Obligations.ModeRowsEnterTheirPlane := by
  intro s t htask hphase hgranularity
  have henter (m : DisplayMode) := dispatchLine_of_byByte m htask hphase hgranularity
  exact ⟨henter .graphicsI, henter .graphicsII, henter .multicolor, henter .text,
    fun i hi => (exec_of_mem_blankRows hi s).trans (henter .blank)⟩

/-- Settles O27: each row is a dispatch, and without a scanline that waits for one it is refused. -/
theorem modeRowsNeedAScanlineAtDispatch : Obligations.ModeRowsNeedAScanlineAtDispatch := by
  intro i s hi hphase
  obtain ⟨m, hexec⟩ := exec_of_mem_modeRows hi s
  exact hexec.trans (dispatchLine_refused m hphase)

end Sys2Proof.Machine

/-! Steps without an operation, the return of a drawn scanline, and the undisturbed scanline from its start to its
return (R111, R113, R117). -/

namespace Sys2Proof.Machine

/-- An exhausted trace leaves the machine as it is (R211). -/
theorem step_of_exhausted {s : State} (htrace : s.trace = []) : step s = .next s := by
  have hsame : s.advance = s := by rw [State.advance, htrace, List.tail_nil, ← htrace]
  simp only [step, State.nextAction, State.fetchCode, htrace, hsame]

/-- Settles O6: the equation of the step for each of the three traces. -/
theorem stepWithoutAnOperation : Obligations.StepWithoutAnOperation := by
  refine fun s rest => ⟨step_of_exhausted, fun htrace htask => ?_, fun index htrace hindex => ?_⟩
  · rw [step_of_renderNext_idle htrace htask, State.advance_of_trace htrace]
  · exact step_of_op_error htrace (if_neg (Nat.not_lt.mpr hindex))

/-- Settles O8: the next action of a drawn scanline is `finishLine`. -/
theorem drawnLineIsReturned : Obligations.DrawnLineIsReturned := by
  intro s t rest htrace htask hphase
  rw [step_of_action htrace htask (by simp [hphase]), renderAction, hphase]
  rfl

/-- Settles O54: the three steps are the sample, the dispatch to the mode of the registers, and the return. -/
theorem undisturbedScanlineIsLine : Obligations.UndisturbedScanlineIsLine := by
  intro index s t h
  obtain ⟨hindex, htask, rfl⟩ := execLine_next_cases h
  rw [run_succ_of_step (step_lineStart _ _ hindex htask),
    run_succ_of_step ((step_of_renderNext_dispatch rfl rfl rfl).trans (dispatchLine_of_whole _ rfl rfl rfl)),
    run_succ_of_step (drawnLineIsReturned _ _ _ rfl rfl rfl)]
  have hnone : s.setRender none = s := by rw [← htask]; rfl
  conv_rhs => rw [← hnone]
  rfl

end Sys2Proof.Machine

/-! RenderFrame against the scanlines one by one, with polls of the interrupt request in between (R119). -/

namespace Sys2Proof.Machine

theorem frameRows_concat (bias : Int) (r : RegFile) (rd : Nat → Byte) (y : Nat) : ∀ (ys : List Nat) (st : Byte),
    let before := frameRows bias r rd ys st
    let line := scanlineRow bias y r rd before.2
    frameRows bias r rd (ys ++ [y]) st = (before.1 ++ [line.1], line.2)
  | [], _ => rfl
  | _ :: ys, _ => by simp only [List.cons_append, frameRows, frameRows_concat bias r rd y ys]

/-- The status register after scanlines 0 to `n - 1`, without F. -/
def statusAfter (bias : Int) (r : RegFile) (rd : Nat → Byte) (st : Byte) (n : Nat) : Byte :=
  (frameRows bias r rd (List.range n) st).2

theorem statusAfter_succ (bias : Int) (r : RegFile) (rd : Nat → Byte) (st : Byte) (n : Nat) :
    statusAfter bias r rd st (n + 1) = (scanlineRow bias n r rd (statusAfter bias r rd st n)).2 := by
  rw [statusAfter, List.range_succ, frameRows_concat]
  rfl

/-- Row `y` of a frame is scanline `y`, drawn on the status register that the scanlines before it leave. -/
theorem getElem?_frameRows_range (bias : Int) (r : RegFile) (rd : Nat → Byte) (st : Byte) {y : Nat} :
    ∀ {n : Nat}, y < n → (frameRows bias r rd (List.range n) st).1[y]? =
      some (scanlineRow bias y r rd (statusAfter bias r rd st y)).1
  | n + 1, hy => by
    have hlength : (frameRows bias r rd (List.range n) st).1.length = n :=
      (length_frameRows ..).trans List.length_range
    rw [List.range_succ, frameRows_concat]
    obtain hlt | rfl := Nat.lt_or_eq_of_le (Nat.le_of_lt_succ hy)
    · exact (List.getElem?_append_left (hlength.symm ▸ hlt)).trans (getElem?_frameRows_range bias r rd st hlt)
    · exact (List.getElem?_append_right (Nat.le_of_eq hlength)).trans (by rw [hlength, Nat.sub_self]; rfl)

/-- The state `s` with the trace `rest` and with other answers of the two calls and another status register: what polls
and scanlines can change. -/
def State.afterCalls (s : State) (rest : List Event) (out : PortResult) (row : Option (Nat × Row)) (st : Byte) :
    State :=
  { s with trace := rest, portOut := out, lineOut := row, status := st }

/-- The calls for scanline `y`: any number of polls, then RenderScanline(y). -/
def pollsThenLine (polls : Nat → Nat) (y : Nat) : List Event :=
  List.replicate (polls y) (.op .isInterruptPending) ++ [.op (.renderScanline y)]

/-- The calls for scanlines 0 to `n - 1`. -/
def lineCalls (polls : Nat → Nat) (n : Nat) : List Event := (List.range n).flatMap (pollsThenLine polls)

theorem lineCalls_succ (polls : Nat → Nat) (n : Nat) :
    lineCalls polls (n + 1) = lineCalls polls n ++ pollsThenLine polls n := by
  simp [lineCalls, List.range_succ]

theorem decodeAccess_renderScanline {y : Nat} (hy : y < activeHeight) (latched : Bool) :
    decodeAccess latched (.renderScanline y) = .ok (.line y) := if_pos hy

section

variable {s : State} (polls : Nat → Nat) (rest : List Event)

/-- Polls of the interrupt request change nothing but the answer (R180). -/
theorem run_polls (row : Option (Nat × Row)) (st : Byte) : ∀ (k : Nat) (out : PortResult), ∃ out',
    core.run k (s.afterCalls (List.replicate k (.op .isInterruptPending) ++ rest) out row st) =
      .next (s.afterCalls rest out' row st)
  | 0, out => ⟨out, rfl⟩
  | k + 1, out => by
    obtain ⟨out', hrun⟩ := run_polls row st k (.bool (s.afterCalls [] out row st).interruptPending)
    exact ⟨out', (run_succ_of_step ((step_of_op rfl rfl).trans rfl) k).trans hrun⟩

/-- A scanline is drawn from the registers and VRAM, whatever polls come before it (R111, R180). -/
theorem run_pollsThenLine {y : Nat} (hy : y < activeHeight) (htask : s.render = none) (out : PortResult)
    (row : Option (Nat × Row)) (st : Byte) :
    let line := scanlineRow s.params.spriteYBias y s.regs s.memRead st
    ∃ out', core.run (pollsThenLine polls y).length (s.afterCalls (pollsThenLine polls y ++ rest) out row st) =
      .next (s.afterCalls rest out' (some (y, line.1)) (endLine y line.2)) := by
  obtain ⟨out', hpolls⟩ := run_polls (s := s) (.op (.renderScanline y) :: rest) row st (polls y) out
  refine ⟨out', ?_⟩
  rw [pollsThenLine, List.length_append, List.length_replicate, List.append_assoc]
  refine (run_add_of_run 1 hpolls).trans (run_succ_of_step ?_ 0)
  exact (step_of_op rfl (decodeAccess_renderScanline hy _)).trans (execLine_of_idle hy htask)

/-- The scanlines before the last leave the status register as the frame does before F is set. -/
theorem run_lineCalls (htask : s.render = none) : ∀ {n : Nat}, n < activeHeight → ∀ rest, ∃ out row,
    core.run (lineCalls polls n).length (s.afterCalls (lineCalls polls n ++ rest) s.portOut s.lineOut s.status) =
      .next (s.afterCalls rest out row (statusAfter s.params.spriteYBias s.regs s.memRead s.status n))
  | 0, _, _ => ⟨s.portOut, s.lineOut, rfl⟩
  | n + 1, hn, rest => by
    obtain ⟨out, row, hbefore⟩ := run_lineCalls htask (Nat.lt_of_succ_lt hn) (pollsThenLine polls n ++ rest)
    obtain ⟨out', hline⟩ := run_pollsThenLine polls rest (Nat.lt_of_succ_lt hn) htask out row
      (statusAfter s.params.spriteYBias s.regs s.memRead s.status n)
    rw [endLine_of_lt (Nat.lt_of_succ_lt_succ hn), ← statusAfter_succ] at hline
    rw [lineCalls_succ, List.length_append, List.append_assoc, run_add_of_run _ hbefore]
    exact ⟨out', _, hline⟩

end

/-- Settles O52: `run_lineCalls` for the scanlines before `y`, then scanline `y` as `frameRows` draws it. -/
theorem frameAgreesWithItsScanlines : Obligations.FrameAgreesWithItsScanlines := by
  intro e s polls htask lines
  refine ⟨_, execFrame_of_idle e htask, fun y hy => ?_⟩
  obtain ⟨out, row, hbefore⟩ := run_lineCalls polls htask hy (pollsThenLine polls y)
  obtain ⟨out', hline⟩ := run_pollsThenLine polls [] hy htask out row
    (statusAfter s.params.spriteYBias s.regs s.memRead s.status y)
  rw [List.append_nil] at hline
  have hlines : lines (y + 1) = lineCalls polls y ++ pollsThenLine polls y := lineCalls_succ polls y
  rw [hlines, List.length_append]
  refine ⟨_, (run_add_of_run _ hbefore).trans hline, ?_, fun hlast => ?_⟩
  · rw [List.getD_eq_getElem?_getD]
    dsimp only
    rw [getElem?_frameRows_range (n := activeHeight) _ _ _ _ hy]
    rfl
  · have hheight : activeHeight = y + 1 := congrArg (· + 1) hlast.symm
    refine (if_pos hlast).trans ?_
    rw [← statusAfter_succ, ← hheight]
    rfl

end Sys2Proof.Machine

/-! The sprites of a scanline (R145 to R157): the walk of the sprite entries draws the first four that the scanline
shows and records the next one; pixels of several sprites on one canvas give the coincidence flag and the priority. -/

namespace Sys2Proof.Machine

/-- Settles O33: the first scanline of the sprite and its extent, by the two cases of the Y byte. -/
theorem spriteCoversItsExtentOfScanlines : Obligations.SpriteCoversItsExtentOfScanlines := by
  intro r y Y hy extent
  have hextent : r.spriteExtent = extent := rfl
  have hbyte : Y.toNat < 256 := Y.isLt
  rw [spriteIntersects_iff, spriteTop, hextent]
  split <;> omega

section

variable {bias : Int} {y : Nat} {r : RegFile} {rd : Nat → Byte} {n : Nat}

/-! The walk at its next entry. -/

theorem spriteWalk_sentinel (hY : rd (r.attributeAddress n 0) = spriteSentinel) (ns : List Nat) (count : Nat)
    (cv : Canvas) : spriteWalk bias y r rd (n :: ns) count cv = cv :=
  if_pos hY

theorem spriteWalk_off (hY : rd (r.attributeAddress n 0) ≠ spriteSentinel)
    (hoff : ¬ spriteIntersects bias r y (rd (r.attributeAddress n 0)) = true) (ns : List Nat) (count : Nat)
    (cv : Canvas) : spriteWalk bias y r rd (n :: ns) count cv = spriteWalk bias y r rd ns count cv :=
  (if_neg hY).trans (if_pos (by simp [hoff]))

theorem spriteWalk_fifth (hY : rd (r.attributeAddress n 0) ≠ spriteSentinel)
    (hon : spriteIntersects bias r y (rd (r.attributeAddress n 0)) = true) (ns : List Nat) (cv : Canvas) :
    spriteWalk bias y r rd (n :: ns) spritesPerLine cv = { cv with status := recordFifth n cv.status } :=
  (if_neg hY).trans ((if_neg (by simp [hon])).trans (if_pos rfl))

/-- An entry that is drawn puts its opaque columns on the canvas, none of them for colour 0 (R152). -/
theorem drawSprite_eq_plotAll (cv : Canvas) :
    drawSprite bias y r rd n (rd (r.attributeAddress n 0)) cv =
      plotAll (entryColour r rd n) (opaqueColumns bias y r rd n) cv := by
  by_cases hcolour : entryColour r rd n = 0
  · rw [opaqueColumns, if_pos hcolour]
    exact if_pos hcolour
  · rw [opaqueColumns, if_neg hcolour]
    exact if_neg hcolour

theorem spriteWalk_on (hY : rd (r.attributeAddress n 0) ≠ spriteSentinel)
    (hon : spriteIntersects bias r y (rd (r.attributeAddress n 0)) = true) {count : Nat}
    (hfew : count ≠ spritesPerLine) (ns : List Nat) (cv : Canvas) :
    spriteWalk bias y r rd (n :: ns) count cv =
      spriteWalk bias y r rd ns (count + 1) (plotAll (entryColour r rd n) (opaqueColumns bias y r rd n) cv) := by
  rw [← drawSprite_eq_plotAll]
  exact (if_neg hY).trans ((if_neg (by simp [hon])).trans (if_neg hfew))

end

/-- Settles O34: induction over the entries before the sentinel; every other branch of the walk reads its own entry
alone. -/
theorem sentinelHidesLaterEntries : Obligations.SentinelHidesLaterEntries := by
  intro bias y r rd before after n count cv hn
  induction before generalizing count cv with
  | nil => exact spriteWalk_sentinel hn after count cv
  | cons m before ih =>
    rw [List.cons_append]
    by_cases hY : rd (r.attributeAddress m 0) = spriteSentinel
    · rw [spriteWalk_sentinel hY, spriteWalk_sentinel hY]
    · by_cases hon : spriteIntersects bias r y (rd (r.attributeAddress m 0)) = true
      · by_cases hfull : count = spritesPerLine
        · rw [hfull, spriteWalk_fifth hY hon, spriteWalk_fifth hY hon]
        · rw [spriteWalk_on hY hon hfull, spriteWalk_on hY hon hfull, ih]
      · rw [spriteWalk_off hY hon, spriteWalk_off hY hon, ih]

section

variable (bias : Int) (y : Nat) (r : RegFile) (rd : Nat → Byte)

/-- The entries of `ns` before the sentinel that intersect scanline `y`. -/
def entriesOn (ns : List Nat) : List Nat :=
  (ns.takeWhile fun n => decide (rd (r.attributeAddress n 0) ≠ spriteSentinel)).filter
    fun n => spriteIntersects bias r y (rd (r.attributeAddress n 0))

theorem spritesOn_eq_entriesOn : spritesOn bias y r rd = entriesOn bias y r rd (List.range spriteEntries) := rfl

section

variable {n : Nat}

theorem entriesOn_sentinel (hY : rd (r.attributeAddress n 0) = spriteSentinel) (ns : List Nat) :
    entriesOn bias y r rd (n :: ns) = [] := by
  simp [entriesOn, hY]

theorem entriesOn_off (hY : rd (r.attributeAddress n 0) ≠ spriteSentinel)
    (hoff : ¬ spriteIntersects bias r y (rd (r.attributeAddress n 0)) = true) (ns : List Nat) :
    entriesOn bias y r rd (n :: ns) = entriesOn bias y r rd ns := by
  simp [entriesOn, hY, hoff]

theorem entriesOn_on (hY : rd (r.attributeAddress n 0) ≠ spriteSentinel)
    (hon : spriteIntersects bias r y (rd (r.attributeAddress n 0)) = true) (ns : List Nat) :
    entriesOn bias y r rd (n :: ns) = n :: entriesOn bias y r rd ns := by
  simp [entriesOn, hY, hon]

end

/-- The canvas with the opaque columns of the entries `ns` put on it, one entry after another. -/
def drawEntries : List Nat → Canvas → Canvas
  | [], cv => cv
  | n :: ns, cv => drawEntries ns (plotAll (entryColour r rd n) (opaqueColumns bias y r rd n) cv)

end

/-- The status register after the first of the entries `beyond`, those that are not drawn, is recorded as the fifth
sprite (R150). -/
def recordBeyond : List Nat → Byte → Byte
  | [], st => st
  | n :: _, st => recordFifth n st

/-- The walk draws the entries that the scanline shows, up to four, and records the one after those. -/
theorem spriteWalk_eq (bias : Int) (y : Nat) (r : RegFile) (rd : Nat → Byte) :
    ∀ (ns : List Nat) (count : Nat) (cv : Canvas), count ≤ spritesPerLine →
      let on := entriesOn bias y r rd ns
      let drawn := drawEntries bias y r rd (on.take (spritesPerLine - count)) cv
      spriteWalk bias y r rd ns count cv =
        { drawn with status := recordBeyond (on.drop (spritesPerLine - count)) drawn.status }
  | [], count, cv, _ => by simp [entriesOn, drawEntries, recordBeyond, spriteWalk]
  | n :: ns, count, cv, hcount => by
    dsimp only
    by_cases hY : rd (r.attributeAddress n 0) = spriteSentinel
    · rw [spriteWalk_sentinel hY, entriesOn_sentinel _ _ _ _ hY, List.take_nil, List.drop_nil]
      rfl
    · by_cases hon : spriteIntersects bias r y (rd (r.attributeAddress n 0)) = true
      · rw [entriesOn_on _ _ _ _ hY hon]
        by_cases hfull : count = spritesPerLine
        · rw [hfull, spriteWalk_fifth hY hon, Nat.sub_self]
          rfl
        · have hleft : spritesPerLine - count = spritesPerLine - (count + 1) + 1 := by omega
          rw [spriteWalk_on hY hon hfull, spriteWalk_eq bias y r rd ns _ _ (by omega), hleft]
          rfl
      · rw [spriteWalk_off hY hon, entriesOn_off _ _ _ _ hY hon]
        exact spriteWalk_eq bias y r rd ns count cv hcount

/-- What the compositor starts from: no column is occupied (R156). -/
def Canvas.fresh (row : Row) (st : Byte) : Canvas := { row := row, occupied := noneOccupied, status := st }

/-- The canvas with the first four sprites of the scanline on it. -/
def drawnCanvas (bias : Int) (y : Nat) (r : RegFile) (rd : Nat → Byte) (row : Row) (st : Byte) : Canvas :=
  drawEntries bias y r rd ((spritesOn bias y r rd).take 4) (.fresh row st)

theorem spriteRow_eq (bias : Int) (y : Nat) (r : RegFile) (rd : Nat → Byte) (row : Row) (st : Byte) :
    spriteRow bias y r rd row st =
      ((drawnCanvas bias y r rd row st).row,
        recordBeyond ((spritesOn bias y r rd).drop 4) (drawnCanvas bias y r rd row st).status) := by
  rw [spriteRow, spriteWalk_eq _ _ _ _ _ _ _ (Nat.zero_le _)]
  rfl

/-! The status fields. -/

/-- A property that no pixel destroys is not destroyed by the entries drawn. -/
theorem drawEntries_keeps {P : Canvas → Prop} (hP : ∀ colour dx cv, P cv → P (plot colour dx cv))
    (bias : Int) (y : Nat) (r : RegFile) (rd : Nat → Byte) :
    ∀ (ns : List Nat) (cv : Canvas), P cv → P (drawEntries bias y r rd ns cv)
  | [], _, h => h
  | _ :: ns, _, h => drawEntries_keeps hP bias y r rd ns _ (plotAll_keeps hP _ _ _ h)

/-- A pixel changes C alone (R153). -/
theorem plot_fifth (colour : Colour) (dx : Nat) (cv : Canvas) :
    statusS5 (plot colour dx cv).status = statusS5 cv.status ∧
      statusFSN (plot colour dx cv).status = statusFSN cv.status := by
  obtain ⟨-, -, hS5, hFSN⟩ := setC_fields cv.status
  obtain hsame | hset := plot_status colour dx cv
  · rw [hsame]
    exact ⟨rfl, rfl⟩
  · rw [hset]
    exact ⟨hS5, hFSN⟩

/-- The first four sprites leave S5 and FSN alone. -/
theorem drawnCanvas_fifth (bias : Int) (y : Nat) (r : RegFile) (rd : Nat → Byte) (row : Row) (st : Byte) :
    statusS5 (drawnCanvas bias y r rd row st).status = statusS5 st ∧
      statusFSN (drawnCanvas bias y r rd row st).status = statusFSN st := by
  refine drawEntries_keeps (P := fun cv => statusS5 cv.status = statusS5 st ∧ statusFSN cv.status = statusFSN st)
    (fun colour dx cv ⟨hS5, hFSN⟩ => ?_) bias y r rd _ _ ⟨rfl, rfl⟩
  obtain ⟨hS5', hFSN'⟩ := plot_fifth colour dx cv
  exact ⟨hS5'.trans hS5, hFSN'.trans hFSN⟩

theorem recordBeyond_of_set {st : Byte} (h : statusS5 st = true) : ∀ beyond, recordBeyond beyond st = st
  | [] => rfl
  | n :: _ => recordFifth_of_set n h

theorem recordBeyond_statusC (st : Byte) : ∀ beyond, statusC (recordBeyond beyond st) = statusC st
  | [] => rfl
  | n :: beyond => by
    cases hst : statusS5 st with
    | true => rw [recordBeyond_of_set hst]
    | false =>
      obtain ⟨-, -, -, hC⟩ := recordFifth_fields n hst
      exact hC

/-- Settles O35: only `recordBeyond` touches S5 and FSN, and it finds the fifth entry or none. -/
theorem fifthSpriteIsRecordedOnce : Obligations.FifthSpriteIsRecordedOnce := by
  intro bias y r rd row st on st'
  obtain ⟨hS5, hFSN⟩ := drawnCanvas_fifth bias y r rd row st
  have hst' : st' = recordBeyond (on.drop 4) (drawnCanvas bias y r rd row st).status :=
    congrArg Prod.snd (spriteRow_eq bias y r rd row st)
  refine ⟨fun hfive hclear => ?_, fun hkept => ?_, spriteRow_statusF bias y r rd row st⟩
  · have hfifth : on.drop 4 = on.getD 4 0 :: on.drop 5 := by
      rw [List.drop_eq_getElem_cons (by omega), List.getD_eq_getElem]
    obtain ⟨hS5', hFSN', -⟩ := recordFifth_fields (on.getD 4 0) (hS5.trans hclear)
    rw [hst', hfifth]
    exact ⟨hS5', hFSN'⟩
  · have hsame : st' = (drawnCanvas bias y r rd row st).status := by
      obtain hfew | hset := hkept
      · rw [hst', List.drop_eq_nil_of_le (by omega)]
        rfl
      · rw [hst', recordBeyond_of_set (hS5.trans hset)]
    rw [hsame]
    exact ⟨hS5, hFSN⟩

/-! Pixels on a canvas: which columns they occupy, when they set C and what colour they leave (R153). -/

/-- Column `x` is occupied (R29). -/
def Canvas.isOccupied (cv : Canvas) (x : Nat) : Bool := cv.occupied.getD x false

theorem Canvas.fresh_isOccupied (row : Row) (st : Byte) (x : Nat) : (Canvas.fresh row st).isOccupied x = false :=
  (List.getD_eq_getElem?_getD ..).trans (List.getElem?_getD_replicate_default_eq ..)

section

variable {colour : Colour} {dx : Nat} {cv : Canvas}

theorem plot_of_occupied (h : cv.isOccupied dx = true) : plot colour dx cv = { cv with status := setC cv.status } :=
  if_pos h

theorem plot_of_free (h : ¬ cv.isOccupied dx = true) :
    plot colour dx cv = { cv with row := cv.row.set dx colour, occupied := cv.occupied.set dx true } :=
  if_neg h

theorem isOccupied_plot (hdx : dx < cv.occupied.length) (x : Nat) :
    (plot colour dx cv).isOccupied x = true ↔ cv.isOccupied x = true ∨ x = dx := by
  by_cases h : cv.isOccupied dx = true
  · rw [plot_of_occupied h]
    exact ⟨.inl, fun hx => hx.elim id fun hx => hx ▸ h⟩
  · rw [plot_of_free h]
    simp only [Canvas.isOccupied, List.getD_eq_getElem?_getD, List.getElem?_set]
    by_cases hx : dx = x
    · simp [hx.symm, hdx]
    · simp [hx, Ne.symm hx]

theorem row_plot (hdx : dx < cv.row.length) (x : Nat) :
    (plot colour dx cv).row[x]? = if x = dx ∧ ¬ cv.isOccupied x = true then some colour else cv.row[x]? := by
  by_cases h : cv.isOccupied dx = true
  · rw [plot_of_occupied h, if_neg fun ⟨hx, hfree⟩ => hfree (hx ▸ h)]
  · rw [plot_of_free h]
    by_cases hx : x = dx
    · subst hx
      rw [if_pos ⟨rfl, h⟩, List.getElem?_set_self hdx]
    · rw [if_neg fun ⟨heq, _⟩ => hx heq, List.getElem?_set_ne (Ne.symm hx)]

theorem statusC_plot :
    statusC (plot colour dx cv).status = true ↔ statusC cv.status = true ∨ cv.isOccupied dx = true := by
  by_cases h : cv.isOccupied dx = true
  · obtain ⟨hC, -⟩ := setC_fields cv.status
    rw [plot_of_occupied h]
    simp [h, hC]
  · rw [plot_of_free h]
    simp [h]

end

theorem length_plotAll (colour : Colour) (l : List Nat) (cv : Canvas) :
    (plotAll colour l cv).row.length = cv.row.length ∧ (plotAll colour l cv).occupied.length = cv.occupied.length :=
  plotAll_keeps (P := fun cv' => cv'.row.length = cv.row.length ∧ cv'.occupied.length = cv.occupied.length)
    (fun colour dx _ h => (plot_lengths colour dx _).imp (·.trans h.1) (·.trans h.2)) colour l cv ⟨rfl, rfl⟩

section

variable {colour : Colour}

theorem isOccupied_plotAll (x : Nat) : ∀ {l : List Nat} {cv : Canvas}, (∀ dx ∈ l, dx < cv.occupied.length) →
    ((plotAll colour l cv).isOccupied x = true ↔ cv.isOccupied x = true ∨ x ∈ l)
  | [], _, _ => by simp [plotAll]
  | dx :: l, cv, hl => by
    obtain ⟨hdx, hrest⟩ := List.forall_mem_cons.mp hl
    have hlength : (plot colour dx cv).occupied.length = cv.occupied.length := (plot_lengths colour dx cv).2
    rw [plotAll_cons, isOccupied_plotAll x (by rwa [hlength]), isOccupied_plot hdx, List.mem_cons, or_assoc]

theorem row_plotAll (x : Nat) : ∀ {l : List Nat} {cv : Canvas}, cv.row.length = cv.occupied.length →
    (∀ dx ∈ l, dx < cv.occupied.length) →
    (plotAll colour l cv).row[x]? = if x ∈ l ∧ ¬ cv.isOccupied x = true then some colour else cv.row[x]?
  | [], _, _, _ => by simp [plotAll]
  | dx :: l, cv, hrow, hl => by
    obtain ⟨hdx, hrest⟩ := List.forall_mem_cons.mp hl
    obtain ⟨hlrow, hlocc⟩ := plot_lengths colour dx cv
    rw [plotAll_cons, row_plotAll x (by rw [hlrow, hlocc, hrow]) (by rwa [hlocc]), row_plot (hrow ▸ hdx)]
    simp only [isOccupied_plot hdx, List.mem_cons]
    by_cases hx : x = dx <;> simp [hx]

/-- Columns without repetition set C exactly where an earlier sprite has been. -/
theorem statusC_plotAll : ∀ {l : List Nat} {cv : Canvas}, l.Pairwise (· < ·) →
    (∀ dx ∈ l, dx < cv.occupied.length) →
    (statusC (plotAll colour l cv).status = true ↔ statusC cv.status = true ∨ ∃ dx ∈ l, cv.isOccupied dx = true)
  | [], _, _, _ => by simp [plotAll]
  | dx :: l, cv, hsorted, hl => by
    obtain ⟨hdx, hrest⟩ := List.forall_mem_cons.mp hl
    obtain ⟨hfirst, hsorted⟩ := List.pairwise_cons.mp hsorted
    have hlength : (plot colour dx cv).occupied.length = cv.occupied.length := (plot_lengths colour dx cv).2
    have hothers : (∃ x ∈ l, (plot colour dx cv).isOccupied x = true) ↔ ∃ x ∈ l, cv.isOccupied x = true := by
      refine exists_congr fun x => and_congr_right fun hx => ?_
      rw [isOccupied_plot hdx, or_iff_left (Nat.ne_of_gt (hfirst x hx))]
    rw [plotAll_cons, statusC_plotAll hsorted (by rwa [hlength]), hothers, statusC_plot, or_assoc]
    simp only [List.mem_cons, exists_eq_or_imp]

end

/-! Several sprites on one canvas. -/

section

variable {bias : Int} {y : Nat} {r : RegFile} {rd : Nat → Byte}

theorem opaqueColumns_eq_nil_or (bias : Int) (y : Nat) (r : RegFile) (rd : Nat → Byte) (n : Nat) :
    opaqueColumns bias y r rd n = [] ∨
      ∃ x0 bits, opaqueColumns bias y r rd n = spriteColumns r.spriteSize r.spriteScale x0 bits := by
  simp only [opaqueColumns]
  split
  · exact .inl rfl
  · exact .inr ⟨_, _, rfl⟩

theorem opaqueColumns_sorted (bias : Int) (y : Nat) (r : RegFile) (rd : Nat → Byte) (n : Nat) :
    (opaqueColumns bias y r rd n).Pairwise (· < ·) := by
  obtain h | ⟨x0, bits, h⟩ := opaqueColumns_eq_nil_or bias y r rd n <;> rw [h]
  · exact List.Pairwise.nil
  · exact spriteColumns_sorted ..

/-- The opaque columns of an entry lie inside the canvas (R154). -/
theorem opaqueColumns_lt_length {cv : Canvas} (hocc : cv.occupied.length = activeWidth) (n : Nat) :
    ∀ dx ∈ opaqueColumns bias y r rd n, dx < cv.occupied.length := by
  obtain h | ⟨x0, bits, h⟩ := opaqueColumns_eq_nil_or bias y r rd n <;> rw [h]
  · simp
  · exact fun dx hdx => hocc.symm ▸ spriteColumns_lt hdx

/-- C after the entries `ns`: one of them has an opaque pixel where the canvas was occupied, or where an earlier one of
them has one (R153). -/
theorem statusC_drawEntries : ∀ {ns : List Nat} {cv : Canvas}, cv.occupied.length = activeWidth →
    (statusC (drawEntries bias y r rd ns cv).status = true ↔ statusC cv.status = true ∨
      ∃ k < ns.length, ∃ dx ∈ opaqueColumns bias y r rd (ns.getD k 0),
        cv.isOccupied dx = true ∨ ∃ j < k, dx ∈ opaqueColumns bias y r rd (ns.getD j 0))
  | [], _, _ => by simp [drawEntries]
  | n :: ns, cv, hocc => by
    have hinside := opaqueColumns_lt_length (bias := bias) (y := y) (r := r) (rd := rd) hocc n
    have hlength := (length_plotAll (entryColour r rd n) (opaqueColumns bias y r rd n) cv).2
    rw [drawEntries, statusC_drawEntries (hlength.trans hocc), statusC_plotAll (opaqueColumns_sorted ..) hinside,
      List.length_cons, Nat.exists_lt_succ_left, or_assoc]
    simp only [isOccupied_plotAll _ hinside, Nat.exists_lt_succ_left, List.getD_cons_zero, List.getD_cons_succ,
      or_assoc, Nat.not_lt_zero, false_and, exists_false, or_false]

/-- The colour of column `x` after the entries `ns`: a column that was free shows the first of them with an opaque
pixel there (R153). -/
theorem row_drawEntries (x : Nat) : ∀ {ns : List Nat} {cv : Canvas}, cv.row.length = activeWidth →
    cv.occupied.length = activeWidth →
    (drawEntries bias y r rd ns cv).row[x]? =
      if cv.isOccupied x = true then cv.row[x]?
      else ((ns.find? fun n => decide (x ∈ opaqueColumns bias y r rd n)).map (entryColour r rd)).or cv.row[x]?
  | [], _, _, _ => by simp [drawEntries]
  | n :: ns, cv, hrow, hocc => by
    have hinside := opaqueColumns_lt_length (bias := bias) (y := y) (r := r) (rd := rd) hocc n
    obtain ⟨hlrow, hlocc⟩ := length_plotAll (entryColour r rd n) (opaqueColumns bias y r rd n) cv
    rw [drawEntries, row_drawEntries x (hlrow.trans hrow) (hlocc.trans hocc),
      row_plotAll x (hrow.trans hocc.symm) hinside, List.find?_cons]
    simp only [isOccupied_plotAll x hinside]
    by_cases hfree : cv.isOccupied x = true
    · simp [hfree]
    · by_cases hx : x ∈ opaqueColumns bias y r rd n <;> simp [hfree, hx]

end

/-- Settles O36: `statusC_drawEntries` from a canvas without occupied columns; `recordBeyond` leaves C alone. -/
theorem coincidenceIsTwoOpaquePixelsInOneColumn : Obligations.CoincidenceIsTwoOpaquePixelsInOneColumn := by
  intro bias y r rd row st drawn
  rw [spriteRow_eq, recordBeyond_statusC, drawnCanvas, statusC_drawEntries length_noneOccupied]
  refine or_congr_right ⟨?_, ?_⟩
  · rintro ⟨k, hk, dx, hdxk, hocc | ⟨j, hj, hdxj⟩⟩
    · simp [Canvas.fresh_isOccupied] at hocc
    · exact ⟨j, k, dx, hj, hk, hdxj, hdxk⟩
  · rintro ⟨j, k, dx, hj, hk, hdxj, hdxk⟩
    exact ⟨k, hk, dx, hdxk, .inr ⟨j, hj, hdxj⟩⟩

/-- Settles O37: `row_drawEntries` from a canvas without occupied columns. -/
theorem lowestNumberedSpriteIsOnTop : Obligations.LowestNumberedSpriteIsOnTop := by
  intro bias y r rd row st dx hrow hdx drawn
  rw [spriteRow_eq, drawnCanvas, row_drawEntries dx hrow length_noneOccupied, Canvas.fresh_isOccupied]
  cases drawn.find? fun n => decide (dx ∈ opaqueColumns bias y r rd n) with
  | none | some n => rfl

end Sys2Proof.Machine

/-! The timing gate by its policy (R165, R166): accesses that come too soon under Drop and Abort, a decreasing `elapsed`,
and the times that the gated operations record. -/

namespace Sys2Proof.Machine

section

variable {v : ValidatorParams} {op : TimedOp} {e : Nat} {s t s1 : State}

/-- The gate drops exactly the accesses that come too soon under POLICY Drop. -/
theorem gate_drop_iff : s.gate op e = .drop s1 ↔ ∃ v, TooSoon v op e s ∧ v.policy = .drop ∧
    s1 = (s.recordAccess (categoryOf v op) e).raise (.timingViolation (categoryOf v op)
      (s.accessGap (categoryOf v op) e) (s.requiredGap v (categoryOf v op) e)) := by
  unfold State.gate TooSoon
  cases hv : s.params.validator with
  | absent => simp
  | present v =>
    by_cases he : e < s.timing.latest
    · simp [he, Nat.not_le.mpr he]
    by_cases hgap : s.requiredGap v (categoryOf v op) e ≤ s.accessGap (categoryOf v op) e
    · simp [he, hgap, Nat.not_lt.mpr hgap]
    · cases hp : v.policy <;> simp [he, hgap, Nat.not_lt.mp he, Nat.not_le.mp hgap, hp, eq_comm]

theorem TooSoon.gate_of_abort (hsoon : TooSoon v op e s) (habort : v.policy = .abort) :
    s.gate op e = .abort (.timingAbort (categoryOf v op) (s.accessGap (categoryOf v op) e)
      (s.requiredGap v (categoryOf v op) e)) := by
  obtain ⟨hv, hle, hgap⟩ := hsoon
  simp [State.gate, hv, Nat.not_lt.mpr hle, Nat.not_le.mpr hgap, habort]

theorem gate_of_decreased (hv : s.params.validator = .present v) (he : e < s.timing.latest) :
    s.gate op e = .refuse .elapsedDecreased := by
  simp [State.gate, hv, he]

/-- With the validator present an access that passes the gate has recorded its time under its category. -/
theorem PassesGate.timing (hpass : PassesGate op e s s1) (hv : s.params.validator = .present v) :
    s1.timing = (s.recordAccess (categoryOf v op) e).timing := by
  obtain ⟨habsent, -⟩ | ⟨w, hw, -, -, rfl⟩ | ⟨w, ⟨hw, -⟩, -, rfl⟩ := hpass
  · cases habsent.symm.trans hv
  all_goals
    cases hw.symm.trans hv
    rfl

/-- With the validator present a gated operation that answers, performed or dropped, has recorded its time under its
category. -/
theorem timed_next_timing {dropped run : State → State} (h : timed op e dropped run s = .next t)
    (hv : s.params.validator = .present v) (hdropped : ∀ u, (dropped u).timing = u.timing)
    (hrun : ∀ u, (run u).timing = u.timing) : t.timing = (s.recordAccess (categoryOf v op) e).timing := by
  obtain ⟨u, hpass, rfl⟩ | ⟨u, hdrop, rfl⟩ := timed_next_cases h
  · exact (hrun u).trans (hpass.timing hv)
  · obtain ⟨w, ⟨hw, -⟩, -, rfl⟩ := gate_drop_iff.mp hdrop
    cases hw.symm.trans hv
    exact hdropped _

end

theorem writeData_timing (b : Byte) (s : State) : (writeData b s).timing = s.timing := by rw [writeData_eq]

theorem readData_timing (s : State) : (readData s).timing = s.timing := by unfold readData; split <;> rfl

theorem registerWrite_timing (reg : BitVec 3) (s : State) : (registerWrite reg s).timing = s.timing := by
  rw [registerWrite_eq]

/-- What is left to do for a dropped access of each kind: a read still hands back a byte (R166). -/
def droppedOf : TimedOp → State → State
  | .readData => dropRead
  | .writeData | .writeCommand => dropWrite

theorem droppedOf_timing (op : TimedOp) (s : State) : (droppedOf op s).timing = s.timing := by cases op <;> rfl

/-- Every gated instruction is `timed`, and what it does past the gate leaves the timing state alone. -/
theorem exec_eq_timed {i : Instr} {op : TimedOp} {e : Nat} (h : timedOf i = some (op, e)) :
    ∃ run : State → State, (∀ s, (run s).timing = s.timing) ∧ ∀ s, exec i s = timed op e (droppedOf op) run s := by
  cases i with
  | wd b => cases h; exact ⟨writeData b, writeData_timing b, fun _ => rfl⟩
  | rd => cases h; exact ⟨readData, readData_timing, fun _ => rfl⟩
  | wc1 b => cases h; exact ⟨firstByte b, fun _ => rfl, fun _ => rfl⟩
  | setrd addrHi => cases h; exact ⟨addressCommand .read addrHi, fun _ => rfl, fun _ => rfl⟩
  | setwr addrHi => cases h; exact ⟨addressCommand .write addrHi, fun _ => rfl, fun _ => rfl⟩
  | regw reg => cases h; exact ⟨registerWrite reg, registerWrite_timing reg, fun _ => rfl⟩
  | cmdinv ignored => cases h; exact ⟨invalidCommand ignored, fun _ => rfl, fun _ => rfl⟩
  | rs | intp | clrint | frame | line | reset | modeBlank | modeG1 | modeG2 | modeMc | modeTx | modeInvalidM2M3
  | modeInvalidM1M3 | modeInvalidM1M2 | modeInvalidAll => cases h

theorem timing_of_dispatchLine {m : DisplayMode} {s t : State} (h : dispatchLine m s = .next t) :
    t.timing = s.timing := by
  obtain ⟨task, -, task', st, rfl, -⟩ := movesLine_of_dispatchLine h
  rfl

/-- An operation that is not gated leaves the recorded times alone, but for RESET (R168). -/
theorem last_of_untimed {i : Instr} {s t : State} (h : exec i s = .next t) (huntimed : timedOf i = none)
    (hreset : i ≠ .reset) : t.timing.last = s.timing.last := by
  cases i with
  | wd | rd | wc1 | setrd | setwr | regw | cmdinv => cases huntimed
  | reset => exact absurd rfl hreset
  | rs | intp | clrint => cases h; rfl
  | frame e =>
    obtain ⟨-, rfl⟩ := execFrame_next_cases h
    exact frameRedrawn_last s.params.validator e s.timing
  | line =>
    obtain ⟨-, -, rfl⟩ := execLine_next_cases h
    rfl
  | modeBlank | modeG1 | modeG2 | modeMc | modeTx | modeInvalidM2M3 | modeInvalidM1M3 | modeInvalidM1M2
  | modeInvalidAll => exact congrArg TimingState.last (timing_of_dispatchLine h)

/-- The model's lookup of a timestamp is the core library's. -/
theorem TimingState.lookup_eq_listLookup (c : Nat) : ∀ l : List (Nat × Nat), TimingState.lookup l c = l.lookup c
  | [] => rfl
  | (d, u) :: l => by
    have ih := TimingState.lookup_eq_listLookup c l
    by_cases hc : c = d
    · simp [TimingState.lookup, hc]
    · simp [TimingState.lookup, List.lookup_cons, hc, beq_eq_false_iff_ne.mpr hc, ih]

/-- Settles O16: the gate drops the access, and what is left to do is `droppedOf` its kind. -/
theorem dropPolicySkipsTheAccess : Obligations.DropPolicySkipsTheAccess := by
  intro i op e v s htimed hsoon hdrop
  obtain ⟨run, -, hexec⟩ := exec_eq_timed htimed
  rw [hexec, timed, gate_drop_iff.mpr ⟨v, hsoon, hdrop, rfl⟩]
  cases op <;> rfl

/-- Settles O57: a gated operation that answers has recorded its time by `TimingState.insert`, which replaces the
timestamp of its category alone; the others leave the timestamps as they are. -/
theorem recordedTimeIsThatOfTheLatestAccess : Obligations.RecordedTimeIsThatOfTheLatestAccess := by
  refine ⟨fun v i s t hv h => ⟨fun op e htimed => ?_, last_of_untimed h⟩, fun s c e u hlookup => ?_⟩
  · obtain ⟨run, hrun, hexec⟩ := exec_eq_timed htimed
    have htiming := timed_next_timing ((hexec s).symm.trans h) hv (droppedOf_timing op) hrun
    have hlookup (c : Nat) := TimingState.lookup_insert c (categoryOf v op) e s.timing.last
    simp only [TimingState.lookup_eq_listLookup] at hlookup
    rw [htiming]
    exact ⟨(hlookup _).trans (if_pos rfl), fun c hc => (hlookup c).trans (if_neg hc), rfl⟩
  · rw [State.accessGap, TimingState.lookup_eq_listLookup, hlookup]

/-- Settles O17: the gate aborts or refuses, and `timed` answers so. -/
theorem abortPolicyEndsTheRun : Obligations.AbortPolicyEndsTheRun := by
  intro i op e v s htimed
  obtain ⟨run, -, hexec⟩ := exec_eq_timed htimed
  rw [hexec, timed]
  refine ⟨fun hsoon habort => ?_, fun hv he => ?_⟩
  · rw [hsoon.gate_of_abort habort]
  · rw [gate_of_decreased hv he]

end Sys2Proof.Machine

/-! The interrupt surface over all steps (R175 to R183): the diagnostics that a step appends, what lets an interrupt
request fall, and that without the validator every operation completes. -/

namespace Sys2Proof.Machine

/-- Settles O20: the state that CLRINT answers, and the fields after F <- 0. -/
theorem clearInterruptClearsOnlyTheFrameFlag : Obligations.ClearInterruptClearsOnlyTheFrameFlag :=
  fun s => ⟨_, rfl, rfl, clearF_fields s.status⟩

/-- Without the validator a gated operation completes (R165). -/
theorem exec_next_of_timed {i : Instr} {op : TimedOp} {e : Nat} {s : State} (htimed : timedOf i = some (op, e))
    (habsent : s.params.validator = .absent) : ∃ t, exec i s = .next t := by
  obtain ⟨run, -, hexec⟩ := exec_eq_timed htimed
  exact ⟨run s, (hexec s).trans (timed_of_absent habsent)⟩

/-- Settles O51: a gated operation passes the absent validator; FRAME and LINE find no scanline in progress; the others
have one outcome. -/
theorem noOperationFaultsHangsOrIsRefused : Obligations.NoOperationFaultsHangsOrIsRefused := by
  intro i s hwf hmode habsent hfree
  cases i with
  | wd | rd | wc1 | setrd | setwr | regw | cmdinv => exact exec_next_of_timed rfl habsent
  | rs | intp | clrint | reset => exact ⟨_, rfl⟩
  | frame e =>
    have htask : s.render = none := hfree.resolve_right fun ⟨hframe, _⟩ => hframe e rfl
    exact ⟨_, execFrame_of_idle e htask⟩
  | line index =>
    have htask : s.render = none := hfree.resolve_right fun ⟨_, hline⟩ => hline index rfl
    exact ⟨_, execLine_of_idle (of_decide_eq_true hwf) htask⟩
  | modeBlank | modeG1 | modeG2 | modeMc | modeTx | modeInvalidM2M3 | modeInvalidM1M3 | modeInvalidM1M2
  | modeInvalidAll => exact absurd (by decide) hmode

/-- The diagnostic is a TimingViolation (R176). -/
def Diag.IsViolation (d : Diag) : Prop := ∃ c g q, d = .timingViolation c g q

/-- The diagnostic is one that an operation raises itself, past the gate (R176). -/
def Diag.IsOther (d : Diag) : Prop := ¬ d.IsViolation

/-- From `s` to `t` at most one diagnostic is appended, and it is a `p`. -/
def Raises (p : Diag → Prop) (s t : State) : Prop :=
  t.diags = s.diags ∨ ∃ d, p d ∧ t.diags = s.diags ++ [d]

/-- From `s` to `t` the gate raises at most one TimingViolation, and then the operation, in the state `u` that it finds
past the gate, at most one diagnostic of another kind (R183). -/
def RaisesInOrder (s t : State) : Prop :=
  ∃ u, Raises Diag.IsViolation s u ∧ Raises Diag.IsOther u t

theorem raisesInOrder_of_diags_eq {s t : State} (h : t.diags = s.diags) : RaisesInOrder s t :=
  ⟨s, .inl rfl, .inl h⟩

theorem PassesGate.raises {op : TimedOp} {e : Nat} {s s1 : State} (hpass : PassesGate op e s s1) :
    Raises Diag.IsViolation s s1 := by
  obtain rfl | ⟨c, rfl⟩ | ⟨c, g, q, rfl⟩ := hpass.cases
  · exact .inl rfl
  · exact .inl rfl
  · exact .inr ⟨_, ⟨c, g, q, rfl⟩, rfl⟩

/-- A gated operation raises in order, if what it does past the gate raises no TimingViolation and a dropped access
raises nothing more (R166). -/
theorem raisesInOrder_of_timed {op : TimedOp} {e : Nat} {dropped run : State → State} {s t : State}
    (h : timed op e dropped run s = .next t) (hdropped : ∀ u, (dropped u).diags = u.diags)
    (hrun : ∀ u, Raises Diag.IsOther u (run u)) : RaisesInOrder s t := by
  obtain ⟨s1, hpass, rfl⟩ | ⟨s1, hdrop, rfl⟩ := timed_next_cases h
  · exact ⟨s1, hpass.raises, hrun s1⟩
  · obtain ⟨c, g, q, rfl⟩ := gate_drop_cases hdrop
    exact ⟨_, .inr ⟨_, ⟨c, g, q, rfl⟩, rfl⟩, .inl (hdropped _)⟩

theorem raises_writeData (v : Byte) (s : State) : Raises Diag.IsOther s (writeData v s) := by
  cases hmode : s.mode with
  | read => exact .inr ⟨.writeInReadMode s.address v, nofun, by simp [writeData_eq, hmode]⟩
  | write => exact .inl (by simp [writeData_eq, hmode])

theorem raises_readData (s : State) : Raises Diag.IsOther s (readData s) := by
  cases hmode : s.mode with
  | read => exact .inl (by rw [readData_of_read hmode])
  | write => exact .inr ⟨.readInWriteMode s.address, nofun, by rw [readData_of_write hmode]⟩

theorem raises_registerWrite (reg : BitVec 3) (s : State) : Raises Diag.IsOther s (registerWrite reg s) := by
  by_cases hlegal : s.latchByte &&& mustBeZero reg = 0
  · exact .inl (by rw [registerWrite, if_pos hlegal]; rfl)
  · exact .inr ⟨.reservedBits reg s.latchByte, nofun, by rw [registerWrite, if_neg hlegal]; rfl⟩

theorem raises_invalidCommand (ignored : BitVec 6) (s : State) :
    Raises Diag.IsOther s (invalidCommand ignored s) :=
  .inr ⟨.invalidCommand s.latchByte (secondByte 0b11 ignored), nofun, rfl⟩

theorem diags_of_movesLine {task : LineTask} {s t : State} (h : MovesLine task s t) : t.diags = s.diags := by
  obtain ⟨task', st, rfl, -⟩ := h
  rfl

theorem diags_of_dispatchLine {m : DisplayMode} {s t : State} (h : dispatchLine m s = .next t) :
    t.diags = s.diags := by
  obtain ⟨task, -, hmove⟩ := movesLine_of_dispatchLine h
  exact diags_of_movesLine hmove

theorem diags_renderAction {task : LineTask} (s : State) (hphase : task.phase ≠ .dispatch) :
    (renderAction task s).diags = s.diags := by
  obtain ⟨-, hfinish⟩ | hmove := renderAction_cases task s hphase
  · rw [hfinish]; rfl
  · exact diags_of_movesLine hmove

theorem raisesInOrder_of_exec {i : Instr} {s t : State} (h : exec i s = .next t) : RaisesInOrder s t := by
  cases i with
  | wd v => exact raisesInOrder_of_timed h (fun _ => rfl) (raises_writeData v)
  | rd => exact raisesInOrder_of_timed h (fun _ => rfl) raises_readData
  | wc1 | setrd | setwr => exact raisesInOrder_of_timed h (fun _ => rfl) fun _ => .inl rfl
  | regw reg => exact raisesInOrder_of_timed h (fun _ => rfl) (raises_registerWrite reg)
  | cmdinv ignored => exact raisesInOrder_of_timed h (fun _ => rfl) (raises_invalidCommand ignored)
  | rs | intp | clrint | reset => cases h; exact raisesInOrder_of_diags_eq rfl
  | frame =>
    obtain ⟨-, rfl⟩ := execFrame_next_cases h
    exact raisesInOrder_of_diags_eq rfl
  | line =>
    obtain ⟨-, -, rfl⟩ := execLine_next_cases h
    exact raisesInOrder_of_diags_eq rfl
  | modeBlank | modeG1 | modeG2 | modeMc | modeTx | modeInvalidM2M3 | modeInvalidM1M3 | modeInvalidM1M2
  | modeInvalidAll => exact raisesInOrder_of_diags_eq (diags_of_dispatchLine h)

theorem raisesInOrder_of_step {s t : State} (h : step s = .next t) : RaisesInOrder s t := by
  cases stepTo_of_step h with
  | exhausted _ ht | noScanline _ _ ht | start _ _ _ _ _ ht => exact raisesInOrder_of_diags_eq (ht ▸ rfl)
  | op a i _ _ _ hexec => exact (raisesInOrder_of_exec hexec : RaisesInOrder s.advance t)
  | dispatch task _ _ _ hdisp =>
    exact raisesInOrder_of_diags_eq (diags_of_dispatchLine hdisp : t.diags = s.advance.diags)
  | action task _ _ _ hphase ht => exact raisesInOrder_of_diags_eq (ht ▸ diags_renderAction s.advance hphase)

/-- Settles O49: every step raises in order, and with both diagnostics the list is the violation and then the other. -/
theorem oneOperationRaisesAtMostTwoDiagnostics : Obligations.OneOperationRaisesAtMostTwoDiagnostics := by
  intro s t h
  obtain ⟨u, hu | ⟨d, ⟨c, g, q, rfl⟩, hu⟩, ht | ⟨d', hother, ht⟩⟩ := raisesInOrder_of_step h
  · exact ⟨[], by simp [ht, hu], by simp, nofun⟩
  · exact ⟨[d'], by simp [ht, hu], by simp, nofun⟩
  · exact ⟨[.timingViolation c g q], by simp [ht, hu], by simp, nofun⟩
  · exact ⟨[.timingViolation c g q, d'], by simp [ht, hu], by simp,
      fun _ => ⟨c, g, q, d', rfl, fun c' g' q' hd => hother ⟨c', g', q', hd⟩⟩⟩

/-- A register write leaves every other register alone, whatever the gate answers (R95). -/
theorem get_of_regw {reg ignored j : BitVec 3} {e : Nat} {s t : State} (h : exec (.regw reg ignored e) s = .next t)
    (hj : j ≠ reg) : t.regs.get j = s.regs.get j := by
  refine timed_keeps (P := fun u => u.regs.get j = s.regs.get j) h rfl (fun _ _ _ hu => hu) (fun _ _ hu => hu)
    (fun _ hu => hu) fun u hu => ?_
  rw [registerWrite_eq]
  exact (RegFile.get_set_other u.regs u.latchByte hj).trans hu

/-- A register changes only by Reset or by a register write with its own number in bits 2:0 (R64, R95). -/
theorem trace_of_register_change {s t : State} {j : BitVec 3} (h : step s = .next t)
    (hchange : t.regs.get j ≠ s.regs.get j) :
    ∃ rest, s.trace = .op .reset :: rest ∨ ∃ v e, s.trace = .op (.commandWrite v e) :: rest ∧ s.latched = true ∧
      v &&& 0xC0 = 0x80 ∧ v.extractLsb' 0 3 = j := by
  have hregs : t.regs ≠ s.regs := fun heq => hchange (heq ▸ rfl)
  obtain ⟨rest, hreset | ⟨v, e, htrace, hlatched, hclass⟩⟩ := registersChangeOnlyByRegisterWriteOrReset s t h hregs
  · exact ⟨rest, .inl hreset⟩
  · have hdecode : decodeAccess s.latched (.commandWrite v e) =
        .ok (.regw (v.extractLsb' 0 3) (v.extractLsb' 3 3) e) := by
      simp only [decodeAccess, hlatched, if_true, decodeSecondByte_of_registerClass hclass]
    rw [step_of_op htrace hdecode] at h
    refine ⟨rest, .inr ⟨v, e, htrace, hlatched, hclass, ?_⟩⟩
    by_contra hother
    exact hchange (get_of_regw (s := s.advance) h (Ne.symm hother))

/-- A step that clears a status flag, or moves FSN otherwise than R150 allows, is one of the three that may (R21). -/
theorem trace_of_not_statusGrows {s t : State} (h : step s = .next t) (hgrows : ¬ StatusGrows s.status t.status) :
    ∃ ev rest, s.trace = ev :: rest ∧ ev ∈ [.op .commandRead, .op .reset, .op .clearInterrupt] := by
  cases htrace : s.trace with
  | nil =>
    obtain rfl : s = t := Host.Outcome.next.inj ((step_of_exhausted htrace).symm.trans h)
    exact absurd (.refl _) hgrows
  | cons ev rest =>
    refine ⟨ev, rest, rfl, ?_⟩
    by_contra hev
    exact hgrows (statusGrows_of_step htrace hev h)

/-- A request stays while the status register grows and R[1], which holds IE, stays (R180). -/
theorem interruptPending_of_statusGrows {s t : State} (hgrows : StatusGrows s.status t.status)
    (hr1 : t.regs.get 1 = s.regs.get 1) (hpending : s.interruptPending = true) : t.interruptPending = true := by
  obtain ⟨hF, hIE⟩ := (Bool.and_eq_true _ _).mp hpending
  have hIE' : t.regs.interruptEnable = s.regs.interruptEnable := congrArg (BitVec.getLsbD · 5) hr1
  exact (Bool.and_eq_true _ _).mpr ⟨hgrows.frame hF, hIE'.trans hIE⟩

/-- Bits 7:6 and 2:0 of a second command byte that writes R[1] (R62, R64). -/
theorem masked_of_register_one : ∀ v : Byte, v &&& 0xC0 = 0x80 → v.extractLsb' 0 3 = 1 → v &&& 0xC7 = 0x81 := by
  decide +kernel

/-- Settles O50: a request that falls has lost F, to one of the three operations that clear status flags, or IE, to a
change of R[1]. -/
theorem interruptRequestFallsOnlyByClearingFOrIE : Obligations.InterruptRequestFallsOnlyByClearingFOrIE := by
  intro s t h hpending hfallen
  by_cases hgrows : StatusGrows s.status t.status
  · have hr1 : t.regs.get 1 ≠ s.regs.get 1 := fun hr1 =>
      Bool.false_ne_true (hfallen.symm.trans (interruptPending_of_statusGrows hgrows hr1 hpending))
    obtain ⟨rest, hreset | ⟨v, e, htrace, hlatched, hclass, hreg⟩⟩ := trace_of_register_change h hr1
    · exact ⟨rest, .inr (.inr (.inl hreset))⟩
    · exact ⟨rest, .inr (.inr (.inr ⟨v, e, htrace, hlatched, masked_of_register_one v hclass hreg⟩))⟩
  · obtain ⟨ev, rest, htrace, hev⟩ := trace_of_not_statusGrows h hgrows
    simp only [List.mem_cons, List.not_mem_nil, or_false] at hev
    obtain rfl | rfl | rfl := hev
    · exact ⟨rest, .inl htrace⟩
    · exact ⟨rest, .inr (.inr (.inl htrace))⟩
    · exact ⟨rest, .inr (.inl htrace)⟩

end Sys2Proof.Machine

/-! The parameters of the run over all steps (R212): fixed before it, changed by nothing. -/

namespace Sys2Proof.Machine

/-- A gated operation leaves the parameters alone, passed or dropped, if what it does past the gate leaves them. -/
theorem params_of_timed {op : TimedOp} {e : Nat} {dropped run : State → State} {s t : State}
    (h : timed op e dropped run s = .next t) (hdropped : ∀ u, (dropped u).params = u.params)
    (hrun : ∀ u, (run u).params = u.params) : t.params = s.params :=
  timed_keeps (P := fun u => u.params = s.params) h rfl (fun u c e => (u.recordAccess_params c e).trans)
    (fun u d => (u.raise_params d).trans) (fun u => (hdropped u).trans) fun u => (hrun u).trans

theorem writeData_params (v : Byte) (s : State) : (writeData v s).params = s.params := by rw [writeData_eq]

theorem readData_params (s : State) : (readData s).params = s.params := by
  cases hmode : s.mode with
  | read => rw [readData_of_read hmode]
  | write => rw [readData_of_write hmode]

theorem registerWrite_params (reg : BitVec 3) (s : State) : (registerWrite reg s).params = s.params := by
  rw [registerWrite_eq]

theorem params_of_movesLine {task : LineTask} {s t : State} (h : MovesLine task s t) : t.params = s.params := by
  obtain ⟨task', st, rfl, -⟩ := h
  rfl

theorem params_of_dispatchLine {m : DisplayMode} {s t : State} (h : dispatchLine m s = .next t) :
    t.params = s.params := by
  obtain ⟨task, -, hmove⟩ := movesLine_of_dispatchLine h
  exact params_of_movesLine hmove

theorem renderAction_params {task : LineTask} (s : State) (hphase : task.phase ≠ .dispatch) :
    (renderAction task s).params = s.params := by
  obtain ⟨-, hfinish⟩ | hmove := renderAction_cases task s hphase
  · rw [hfinish]; rfl
  · exact params_of_movesLine hmove

/-- No instruction changes a parameter, not even RESET: the parameters are no state of the block (R195). -/
theorem params_of_exec {i : Instr} {s t : State} (h : exec i s = .next t) : t.params = s.params := by
  cases i with
  | wd v => exact params_of_timed h (fun _ => rfl) (writeData_params v)
  | rd => exact params_of_timed h (fun _ => rfl) readData_params
  | regw reg => exact params_of_timed h (fun _ => rfl) (registerWrite_params reg)
  | wc1 | setrd | setwr | cmdinv => exact params_of_timed h (fun _ => rfl) fun _ => rfl
  | rs | intp | clrint | reset => cases h; rfl
  | frame =>
    obtain ⟨-, rfl⟩ := execFrame_next_cases h
    rfl
  | line =>
    obtain ⟨-, -, rfl⟩ := execLine_next_cases h
    rfl
  | modeBlank | modeG1 | modeG2 | modeMc | modeTx | modeInvalidM2M3 | modeInvalidM1M3 | modeInvalidM1M2
  | modeInvalidAll => exact params_of_dispatchLine h

/-- Settles O48, by what the step has done: an instruction, a move of the render agent, or no more than the event taken
off the trace. -/
theorem parametersNeverChange : Obligations.ParametersNeverChange := by
  intro s t h
  cases stepTo_of_step h with
  | exhausted _ ht | noScanline _ _ ht | start _ _ _ _ _ ht => rw [ht]; rfl
  | op _ _ _ _ _ hexec => exact (params_of_exec hexec).trans s.advance_params
  | dispatch _ _ _ _ hdisp => exact (params_of_dispatchLine hdisp).trans s.advance_params
  | action _ _ _ _ hphase ht => rw [ht]; exact (renderAction_params s.advance hphase).trans s.advance_params

end Sys2Proof.Machine
